-- ==== Sys2Proof/Word.lean ====
section
/-! DEFINITION. The plain value types of the VD440: bytes, words, and the numbers that name ports, slots,
classes, chain entries, flag words and watch entries (00_scope.md, Words and numbers). -/

namespace Sys2Proof

/-- One byte of the link (R189). -/
abbrev Byte := BitVec 8

/-- A word is 32 bits (00_scope.md, Words and numbers). -/
abbrev Word := BitVec 32

/-- P0 to P3. -/
abbrev Port := Fin 4

/-- Slots 0 to 255 of the Job Store (R1). -/
abbrev SlotId := Fin 256

/-- Job classes 0 to 7. -/
abbrev ClassId := Fin 8

/-- Chain entries 0 to 63 (R31). -/
abbrev ChainId := Fin 64

/-- Flag words 0 to 63 (R111). -/
abbrev FlagId := Fin 64

/-- Watch entries 0 to 15 (R121). -/
abbrev WatchId := Fin 16

/-- Sequence numbers 0 to 15 of command frames (R190). -/
abbrev Seq := BitVec 4

/-- A job handle: a slot and a generation (R3). -/
structure Handle where
  slot : SlotId
  gen : BitVec 8
deriving DecidableEq, Repr

/-- How CANCEL and RETURN say what became of the job (R41, R78, R79). -/
inductive JobOutcome where
  | finished
  | requested
  | requeued
deriving DecidableEq, Repr

end Sys2Proof
end

