-- ==== Sys2Proof/Config.lean ====
section
/-! DEFINITION. What the VD440 fixes once, and the one value its manual leaves open. -/

namespace Sys2Proof

/-- An event queue holds up to 32 entries (R130). -/
def Config.queueCapacity : Nat := 32

/-- The response bytes that limit a FETCH, and the largest response data length (R133, R194). -/
def Config.dataCapacity : Nat := 480

/-- The largest parameter length of a good frame (R190). -/
def Config.maxParams : Nat := 64

/-- The most hits one FIND returns (R169). -/
def Config.maxHits : Nat := 8

/-- The missed-offer count at which a port becomes STALLED (R64). -/
def Config.missLimit : Nat := 3

/-- The largest distance of a running deadline (R178). -/
def Config.maxAhead : Nat := 65535

/-- FREE VALUE (log entry 9). The byte that stands for FINISHED, REQUESTED or REQUEUED in the responses of
CANCEL and RETURN: R41, R78 and R79 list the outcome among the response values, and R197's table of
named values gives it no code. Nothing is known of it. -/
opaque Config.outcomeCode : JobOutcome → Byte

end Sys2Proof
end

