-- ==== Sys2Proof/Syntax.lean ====
section
/-! DEFINITION. The commands of the VD440: one constructor for each row of spec/opcode_table.json.

A host command is a good command frame ending on port `p` with sequence `q` and parameter bytes `ps`
(R190); the row fixes its command code. The raw parameter bytes are kept, so that every frame a host
can send is a term. Internal events carry the port, slot or nothing that names the event. -/

namespace Sys2Proof

/-- An assertion of PRST_n: the port whose pin it is, and the bytes shifted in so far of a transaction in progress
on that port, none where PCS_n is deasserted (R189, R200; log entry 14). -/
structure PrstAssertion where
  port : Port
  cut : Option (List Byte)
  deriving DecidableEq, Repr

/-- The part of a response read that a RESPONSE_READ row stands for (R194; log entry 14): the whole read, in which
the host clocks `n` bytes after the kind byte with no event of the part in between; or its beginning, the clocking
of `n` bytes more, and its end, between which other events may be taken. -/
inductive ReadPart where
  | whole (n : Nat)
  | begins
  | clocks (n : Nat)
  | ends
  deriving DecidableEq, Repr

inductive Instr where
  -- 11 The Host Link: the bytes of one transaction on a port, kind byte first
  | commandFrameBad (p : Port) (bytes : List Byte)
  | retransmission (p : Port) (bytes : List Byte)
  | overrun (p : Port) (bytes : List Byte)
  | badCommand (p : Port) (bytes : List Byte)
  -- a response transaction, or the part of one that is taken at this place of the queue
  | responseRead (p : Port) (part : ReadPart)
  -- 08 Host Sessions
  | join (p : Port) (q : Seq) (ps : List Byte)
  | setService (p : Port) (q : Seq) (ps : List Byte)
  | leaveDrain (p : Port) (q : Seq) (ps : List Byte)
  | leaveNow (p : Port) (q : Seq) (ps : List Byte)
  | portStatus (p : Port) (q : Seq) (ps : List Byte)
  | claimManager (p : Port) (q : Seq) (ps : List Byte)
  | releaseManager (p : Port) (q : Seq) (ps : List Byte)
  -- 02 Class Queues and Chains, 05 Finishing and Reporting
  | submit (p : Port) (q : Seq) (ps : List Byte)
  | cancel (p : Port) (q : Seq) (ps : List Byte)
  | reap (p : Port) (q : Seq) (ps : List Byte)
  | chainReset (p : Port) (q : Seq) (ps : List Byte)
  -- 03 Dispatch and Offers, 04 Leases and Working Sets
  | accept (p : Port) (q : Seq) (ps : List Byte)
  | decline (p : Port) (q : Seq) (ps : List Byte)
  | renew (p : Port) (q : Seq) (ps : List Byte)
  | returnJob (p : Port) (q : Seq) (ps : List Byte)
  | complete (p : Port) (q : Seq) (ps : List Byte)
  -- 06 Flag Words and Watches
  | flagRead (p : Port) (q : Seq) (ps : List Byte)
  | flagCombine (p : Port) (q : Seq) (ps : List Byte)
  | watchSet (p : Port) (q : Seq) (ps : List Byte)
  | watchClear (p : Port) (q : Seq) (ps : List Byte)
  -- 07 Notices and Event Queues
  | fetch (p : Port) (q : Seq) (ps : List Byte)
  -- 09 Searching the Store
  | query (p : Port) (q : Seq) (ps : List Byte)
  | find (p : Port) (q : Seq) (ps : List Byte)
  | cancelMatch (p : Port) (q : Seq) (ps : List Byte)
  | readCounts (p : Port) (q : Seq) (ps : List Byte)
  -- 10 Device Control and Timing, 08 EVICT, 01 PURGE
  | hold (p : Port) (q : Seq) (ps : List Byte)
  | resume (p : Port) (q : Seq) (ps : List Byte)
  | pauseClass (p : Port) (q : Seq) (ps : List Byte)
  | unpauseClass (p : Port) (q : Seq) (ps : List Byte)
  | setClassPolicy (p : Port) (q : Seq) (ps : List Byte)
  | setTickDivisor (p : Port) (q : Seq) (ps : List Byte)
  | setQuota (p : Port) (q : Seq) (ps : List Byte)
  | setOrphanPolicy (p : Port) (q : Seq) (ps : List Byte)
  | evict (p : Port) (q : Seq) (ps : List Byte)
  | purge (p : Port) (q : Seq) (ps : List Byte)
  | clearAll (p : Port) (q : Seq) (ps : List Byte)
  -- the reset pins
  | resetNAssert
  | resetNRelease
  | prstNAssert (p : PrstAssertion)
  | prstNDeassert (p : Port)
  -- the part's own events
  | tick
  | offerWindowExpiry (i : SlotId)
  | leaseExpiry (i : SlotId)
  | agePromotion (i : SlotId)
  | offer
  | scanVisit (p : Port)
  -- the steps of a forced departure of a port (R154)
  | departureOfferWithdrawal (p : Port)
  | departureReclaim (p : Port)
  | orphanHandling (p : Port)
  | departureWatchRelease (p : Port)
  | departureNoticeClear (p : Port)
  | departureScanAbandon (p : Port)
  -- 11 a good frame on a port in DOWN
  | goodFrameOnDownPort (p : Port) (bytes : List Byte)
deriving DecidableEq, Repr

end Sys2Proof
end

