-- ==== Sys2Proof/Machine/State.lean ====
section
/-! DEFINITION. The state of the VD440 as plain data, and the state after power-on reset.

A collection that the spec calls a set and that the slots already determine (offer sets, done sets, the
quarantine), a chain's live count and the attention outputs are views, defined in Machine/Ops.lean
(log entry 3). -/

namespace Sys2Proof.Machine

/-- The places of a slot in its life (R1). -/
inductive SlotState where
  | free | queued | offered | active | done | retiring | quarantined
deriving DecidableEq, Repr

/-- The combine functions (R116). -/
inductive CombineFn where
  | replace | and | or | xor
deriving DecidableEq, Repr

/-- A completion action's "when" (R97). -/
inductive When where
  | successOnly | anyFinish
deriving DecidableEq, Repr

/-- A completion action (R1). -/
structure Action where
  flag : FlagId
  fn : CombineFn
  when : When
  operand : Word
  mask : Word
deriving DecidableEq, Repr

/-- Finish statuses (R94). -/
inductive FinishStatus where
  | success | failed | cancelled | expired | chainBroken
deriving DecidableEq, Repr

/-- Reasons of OFFER_WITHDRAWN and LEASE_LOST (R129, R197). -/
inductive Reason where
  | window | cancelled | leaving | dropped | expired
deriving DecidableEq, Repr

/-- The notice a producer is owed in a job record, with the fields it had when it was set (R135, R138). -/
inductive ProducerNotice where
  | jobDone (st : FinishStatus) (code : Option Byte)
  | jobLost
deriving DecidableEq, Repr

/-- A producer mark and the port it is owed to, which outlives the record's producer field (R135). -/
structure ProducerMark where
  port : Port
  notice : ProducerNotice
deriving DecidableEq, Repr

/-- The notices a consumer can be owed in a job record (R135). -/
inductive ConsumerNotice where
  | offerWithdrawn (r : Reason)
  | leaseLost (r : Reason)
  | cancelRequest
  | jobLost
deriving DecidableEq, Repr

/-- The fields of a job record that belong to the job (R1). An absent field is `none`; the fields that R2
shows as always held with a job hold the value of `Job.cleared` when they are cleared. -/
structure Job where
  producer : Option Port
  cls : ClassId
  baseUrgency : Nat
  urgency : Nat
  tag : BitVec 16
  chain : Option (BitVec 8 × ChainId)
  report : Bool
  action : Option Action
  payload : List Word
  leaseLimit : Nat
  attemptLimit : Nat
  attempts : Nat
  qseq : Word
  queuedSince : Option Word
  declined : Vector Bool 4
  consumer : Option Port
  deadline : Option Word
  reclaimedFrom : Option Port
  cancelRequested : Bool
  finish : Option FinishStatus
  userCode : Option Byte
  result : Option (List Word)
  lostHolder : Option Port
deriving DecidableEq, Repr

/-- The record of a slot that holds no job (R2, R9). -/
def Job.cleared : Job where
  producer := none
  cls := 0
  baseUrgency := 0
  urgency := 0
  tag := 0
  chain := none
  report := false
  action := none
  payload := []
  leaseLimit := 0
  attemptLimit := 0
  attempts := 0
  qseq := 0
  queuedSince := none
  declined := Vector.replicate 4 false
  consumer := none
  deadline := none
  reclaimedFrom := none
  cancelRequested := false
  finish := none
  userCode := none
  result := none
  lostHolder := none

/-- One of the 256 slots (R1). `checkOk` is the check code, held as whether it agrees with the record's
contents, which is all that any rule observes of it (R13; log entry 1). `promoDue` counts the promotion
instants of the job that are due and not yet taken (R177; log entry 4). -/
structure Slot where
  gen : BitVec 8
  state : SlotState
  checkOk : Bool
  promoDue : Nat
  producerMark : Option ProducerMark
  consumerMarks : Vector (Option ConsumerNotice) 4
  job : Job
deriving DecidableEq, Repr

/-- A FREE slot of generation `g` (R2). -/
def Slot.empty (g : BitVec 8) : Slot where
  gen := g
  state := .free
  checkOk := true
  promoDue := 0
  producerMark := none
  consumerMarks := Vector.replicate 4 none
  job := Job.cleared

/-- The life of a chain entry (R31). -/
inductive ChainState where
  | free | isOpen | broken
deriving DecidableEq, Repr

/-- The content of a CHAIN_BROKEN notice (R39). -/
structure ChainMark where
  chainId : BitVec 8
  failing : Handle
  count : Nat
deriving DecidableEq, Repr

/-- A chain entry (R31). The key is `owner`, a port or none, with `chainId`. -/
structure ChainEntry where
  state : ChainState
  owner : Option Port
  chainId : BitVec 8
  cls : ClassId
  strict : Bool
  list : List SlotId
  lastConsumer : Option Port
  breakRec : Option (Handle × Nat)
  owed : Option ChainMark
deriving DecidableEq, Repr

/-- A FREE chain entry (R43). -/
def ChainEntry.cleared : ChainEntry where
  state := .free
  owner := none
  chainId := 0
  cls := 0
  strict := false
  list := []
  lastConsumer := none
  breakRec := none
  owed := none

/-- The life of a watch entry (R121). -/
inductive WatchState where
  | free | armed | pending
deriving DecidableEq, Repr

/-- How often a watch reports (R121). -/
inductive WatchMode where
  | once | persist
deriving DecidableEq, Repr

/-- A watch entry (R121). -/
structure Watch where
  state : WatchState
  owner : Option Port
  flag : FlagId
  care : Word
  pattern : Word
  mode : WatchMode
  lastMatched : Bool
  held : Option Word
deriving DecidableEq, Repr

/-- A FREE watch entry (R128). -/
def Watch.cleared : Watch where
  state := .free
  owner := none
  flag := 0
  care := 0
  pattern := 0
  mode := .once
  lastMatched := false
  held := none

/-- PORT_NOTICE kinds with their parameters (R136). -/
inductive PortNotice where
  | left
  | evicted
  | stalled
  | portStalled (p : Port)
  | managerChanged (p : Option Port)
  | holdOn
  | holdOff
  | cleared
deriving DecidableEq, Repr

/-- An event record (R129). -/
inductive Event where
  | offer (h : Handle) (cls : ClassId) (urgency : Nat) (tag : BitVec 16) (payload : List Word)
  | offerWithdrawn (h : Handle) (r : Reason)
  | leaseLost (h : Handle) (r : Reason)
  | cancelRequest (h : Handle)
  | jobDone (h : Handle) (st : FinishStatus) (code : Option Byte)
  | jobLost (h : Handle)
  | chainBroken (id : BitVec 8) (h : Handle) (count : Nat)
  | watchHit (k : WatchId) (f : FlagId) (v : Word)
  | portNotice (n : PortNotice)
deriving DecidableEq, Repr

/-- A port's notice set: one pending flag per PORT_NOTICE kind, with the latest parameter (R136). -/
structure NoticeSet where
  left : Bool
  evicted : Bool
  stalled : Bool
  portStalled : Option Port
  managerChanged : Option (Option Port)
  holdOn : Bool
  holdOff : Bool
  cleared : Bool
deriving DecidableEq, Repr

/-- A clear notice set (R143). -/
def NoticeSet.clear : NoticeSet where
  left := false
  evicted := false
  stalled := false
  portStalled := none
  managerChanged := none
  holdOn := false
  holdOff := false
  cleared := false

/-- Status codes (R196). -/
inductive Status where
  | ok | badFrame | badCommand | badParam | wrongState | notPermitted | notManager | managerTaken
  | stale | notOwner | jobState | leaseLost | storeFull | quota | chainFull | chainClass | chainBroken
  | watchFull | holdRequired | interrupted
deriving DecidableEq, Repr

/-- What the response buffer and the retry cache hold: the stored part of a response frame (R194). -/
structure Resp where
  seq : Seq
  status : Status
  data : List Byte
deriving DecidableEq, Repr

/-- A response read in progress (R194): what was fixed when it began, the flags byte once the read has reached it,
and the bytes clocked after the kind byte. -/
structure Reading where
  ready : Bool
  seq : Seq
  status : Status
  data : List Byte
  flags : Option Byte
  clocked : Nat
deriving DecidableEq, Repr

/-- A port's Link Interface (chapter 11). A command frame arrives whole, at its end (log entry 14). -/
structure Link where
  lastSeq : Option Seq
  cached : Option Resp
  buffer : Option Resp
  inFlight : Bool
  overrun : Bool
deriving DecidableEq, Repr

/-- A cleared link (R195). -/
def Link.cleared : Link where
  lastSeq := none
  cached := none
  buffer := none
  inFlight := false
  overrun := false

/-- Port states (R144). -/
inductive PortState where
  | down | idle | joined | leaving
deriving DecidableEq, Repr

/-- A port's roles (R144). -/
structure Roles where
  producer : Bool
  consumer : Bool
deriving DecidableEq, Repr

/-- No role (R144). -/
def Roles.absent : Roles := ⟨false, false⟩

/-- The orphan choice and policy (R106). -/
inductive OrphanPolicy where
  | drop | keep
deriving DecidableEq, Repr

/-- The steps of a forced departure still to come, by the block that takes the next one (R154, steps 3 to 8). -/
inductive DepStep where
  | withdraw | reclaim | orphans | watches | notices | search
deriving DecidableEq, Repr

/-- What caused a forced departure (R154). -/
inductive DepCause where
  | leaveNow | evict | portReset
deriving DecidableEq, Repr

/-- The counts that the responses of LEAVE NOW and EVICT carry (R156). -/
structure DepCounts where
  withdrawn : Nat
  requeued : Nat
  cancelled : Nat
  expired : Nat
  discarded : Nat
  orphaned : Nat
  released : Nat
  chains : Nat
  watches : Nat
deriving DecidableEq, Repr

/-- The counts of a departure that has taken no step. -/
def DepCounts.zero : DepCounts := ⟨0, 0, 0, 0, 0, 0, 0, 0, 0⟩

/-- A forced departure in progress: the port's departing flag with what R154 to R157 keep of it. `answer` is
the port whose LEAVE NOW or EVICT is answered at the end, none when PRST_n has been asserted on it since. -/
structure Departure where
  next : DepStep
  cause : DepCause
  orphan : OrphanPolicy
  prstSeen : Bool
  answer : Option Port
  counts : DepCounts
deriving DecidableEq, Repr

/-- The states a FIND can select (R168, R197). -/
structure StateSet where
  queued : Bool
  offered : Bool
  active : Bool
  done : Bool
  quarantined : Bool
deriving DecidableEq, Repr

/-- What a scan looks for and has found (R163). -/
inductive ScanKind where
  | find (states : StateSet) (hits : List (Handle × SlotState))
  | cancelMatch (includeOffered : Bool) (count : Nat)
deriving DecidableEq, Repr

/-- A scan record (R163). `cls` none is ANY; `next` is the next slot to visit. -/
structure Scan where
  kind : ScanKind
  cls : Option ClassId
  tagKey : BitVec 16
  care : BitVec 16
  next : SlotId
deriving DecidableEq, Repr

/-- A class policy row (R180). -/
structure ClassPolicy where
  offerWindow : Nat
  defaultLease : Nat
  defaultAttempts : Nat
  ageStep : Nat
  ageCeiling : Nat
deriving DecidableEq, Repr

/-- The default row (R180). -/
def ClassPolicy.default : ClassPolicy := ⟨100, 2000, 3, 0, 15⟩

/-- All that the blocks hold for one port. `abandoned`: an assertion of PRST_n, or one of RESET_N during a response
read, has abandoned the transaction in progress, whose PCS_n has yet to rise (R189). `reading`: the response read in
progress (R194). Both, and `pdo`, are the model's own fields (log entry 14). -/
structure PortRec where
  prst : Bool
  state : PortState
  departure : Option Departure
  roles : Roles
  credits : Nat
  mask : BitVec 8
  floor : Nat
  link : Link
  pdo : List Byte
  queue : List Event
  notices : NoticeSet
  workingSet : List SlotId
  missed : Nat
  stalled : Bool
  latch : Option (FlagId × Word)
  cursor : Nat
  scan : Option Scan
  quota : Nat
  quotaCount : Nat
  abandoned : Bool
  reading : Option Reading
deriving DecidableEq, Repr

/-- A port after power-on reset, PRST_n deasserted and no transaction in progress (R144, R187; log entries 6 and
14). -/
def PortRec.powerOn : PortRec where
  prst := false
  state := .down
  departure := none
  roles := Roles.absent
  credits := 0
  mask := 0
  floor := 0
  link := Link.cleared
  pdo := []
  queue := []
  notices := NoticeSet.clear
  workingSet := []
  missed := 0
  stalled := false
  latch := none
  cursor := 0
  scan := none
  quota := 64
  quotaCount := 0
  abandoned := false
  reading := none

/-- The VD440 has no way of stopping: every command is answered, every event is taken or does not take
place (INVENTORY.md, Faults). No constructor, so no meaning can fault. -/
inductive Fault where
deriving DecidableEq, Repr

/-- The one refusal is the one of a row that has no meaning yet. -/
inductive Refusal where
  /-- Raised by `exec` for a row of the table without a meaning. Safe: nothing is proved of such a row. -/
  | notModelled (mnemonic : String)
deriving DecidableEq, Repr

/-- The VD440. -/
structure State where
  inReset : Bool
  ports : Vector PortRec 4
  slots : Vector Slot 256
  freeList : List SlotId
  classQueues : Vector (List SlotId) 8
  seqCounter : Word
  chains : Vector ChainEntry 64
  classPtr : ClassId
  portPtr : Port
  hold : Bool
  paused : Vector Bool 8
  words : Vector Word 64
  watches : Vector Watch 16
  manager : Option Port
  timeBase : Word
  prescaler : Nat
  divisor : Nat
  policy : Vector ClassPolicy 8
  orphanPolicy : OrphanPolicy
  pending : List Instr
deriving DecidableEq, Repr

/-- The machine right after power-on reset: RESET_N still asserted, every block at the power-on values R187
gathers (R18, R43, R69, R92, R128, R143, R144, R175, R176, R195; log entry 6). -/
def State.reset : State where
  inReset := true
  ports := Vector.replicate 4 PortRec.powerOn
  slots := Vector.replicate 256 (Slot.empty 0)
  freeList := List.finRange 256
  classQueues := Vector.replicate 8 []
  seqCounter := 0
  chains := Vector.replicate 64 ChainEntry.cleared
  classPtr := 0
  portPtr := 0
  hold := false
  paused := Vector.replicate 8 false
  words := Vector.replicate 64 0
  watches := Vector.replicate 16 Watch.cleared
  manager := none
  timeBase := 0
  prescaler := 0
  divisor := 250
  policy := Vector.replicate 8 ClassPolicy.default
  orphanPolicy := .drop
  pending := []

end Sys2Proof.Machine
end

