-- ==== Sys2Proof/Machine/Flags.lean ====
section
/-! DEFINITION. The combine function and the watch comparison of the Flag Unit (chapter 6). -/

namespace Sys2Proof.Machine

/-- The function of a masked bit, on whole words (R116). -/
def CombineFn.apply (fn : CombineFn) (old operand : Word) : Word :=
  match fn with
  | .replace => operand
  | .and => old &&& operand
  | .or => old ||| operand
  | .xor => old ^^^ operand

/-- The result word of a combine: the old word with its masked bits replaced by the function's (R116). -/
def combine (fn : CombineFn) (old operand mask : Word) : Word :=
  (old &&& ~~~mask) ||| (fn.apply old operand &&& mask)

/-- Two words agree under a care mask (R118 step 3, R123). -/
def equalUnder (care a b : Word) : Bool := a &&& care == b &&& care

/-- The value matches the watch (R123). -/
def Watch.matchesValue (w : Watch) (v : Word) : Bool := equalUnder w.care v w.pattern

/-- The evaluation of an ARMED entry against a value is a hit (R123's table). -/
def Watch.hits (w : Watch) (v : Word) : Bool :=
  match w.mode with
  | .once => w.matchesValue v
  | .persist => w.matchesValue v && !w.lastMatched

/-- A tag answers a key under a care mask (R169). -/
def tagAnswers (tag key care : BitVec 16) : Bool := tag &&& care == key &&& care

end Sys2Proof.Machine
end

