-- ==== Sys2Proof/Decode.lean ====
section
/-! DEFINITION. Command frames (R190, R191) and the rows of the table their command codes name (R197).

No row of spec/opcode_table.json carries bits, so `decodeTableWord` spells no command. What a host
sends is a command frame; `checkFrame` and `commandOf` read one, `Instr.frame` and `frameBytes` write
one. -/

namespace Sys2Proof

/-- One shift of the CRC-8 register, with the generator's low eight terms 0x07 (R191 step 2). -/
def crcBit (r : Byte) : Byte := if r.msb then (r <<< 1) ^^^ 0x07 else r <<< 1

/-- One byte through the register (R191 steps 1 and 2). -/
def crcByte (r b : Byte) : Byte := Nat.repeat crcBit 8 (r ^^^ b)

/-- The CRC-8 of a sequence of bytes (R191). -/
def crc8 (bs : List Byte) : Byte := bs.foldl crcByte 0

/-- What a good command frame carries (R190). -/
structure Frame where
  seq : Seq
  code : Byte
  params : List Byte
deriving DecidableEq, Repr

/-- The kind bytes (R189). -/
def kindCommand : Byte := 0x3C

def kindResponse : Byte := 0x5A

/-- The bytes of a command frame (R190). -/
def frameBytes (f : Frame) : List Byte :=
  let body := kindCommand :: BitVec.zeroExtend 8 f.seq :: f.code :: BitVec.ofNat 8 f.params.length :: f.params
  body ++ [crc8 body]

/-- The frame step (R190): the frame the bytes of a transaction spell, none when they fail it. -/
def checkFrame (bytes : List Byte) : Option Frame :=
  match bytes with
  | kind :: sq :: code :: len :: rest =>
    if kind = kindCommand ∧ sq.toNat ≤ 15 ∧ len.toNat ≤ Config.maxParams ∧ rest.length = len.toNat + 1
        ∧ crc8 (kind :: sq :: code :: len :: rest.take len.toNat) = rest.getLastD 0 then
      some ⟨sq.setWidth 4, code, rest.take len.toNat⟩
    else none
  | _ => none

/-- The sequence field of a BAD_FRAME response: the second byte with its upper four bits cleared, or 0
(R190). -/
def badFrameSeq (bytes : List Byte) : Seq :=
  match bytes with
  | _ :: sq :: _ => sq.setWidth 4
  | _ => 0

/-- The row of the table that a good frame on port `p` names by its command code; none for a code not in
the command code table (R197). A LEAVE frame is the row LEAVE_NOW when its mode is NOW, and the row
LEAVE_DRAIN otherwise (log entry 8). -/
def commandOf (p : Port) (f : Frame) : Option Instr :=
  if f.code = 0x01 then some (.join p f.seq f.params)
  else if f.code = 0x02 then some (.setService p f.seq f.params)
  else if f.code = 0x03 then
    if f.params.head? = some 1 then some (.leaveNow p f.seq f.params)
    else some (.leaveDrain p f.seq f.params)
  else if f.code = 0x04 then some (.portStatus p f.seq f.params)
  else if f.code = 0x05 then some (.claimManager p f.seq f.params)
  else if f.code = 0x06 then some (.releaseManager p f.seq f.params)
  else if f.code = 0x10 then some (.submit p f.seq f.params)
  else if f.code = 0x11 then some (.cancel p f.seq f.params)
  else if f.code = 0x12 then some (.reap p f.seq f.params)
  else if f.code = 0x13 then some (.chainReset p f.seq f.params)
  else if f.code = 0x20 then some (.accept p f.seq f.params)
  else if f.code = 0x21 then some (.decline p f.seq f.params)
  else if f.code = 0x22 then some (.renew p f.seq f.params)
  else if f.code = 0x23 then some (.returnJob p f.seq f.params)
  else if f.code = 0x24 then some (.complete p f.seq f.params)
  else if f.code = 0x30 then some (.flagRead p f.seq f.params)
  else if f.code = 0x31 then some (.flagCombine p f.seq f.params)
  else if f.code = 0x32 then some (.watchSet p f.seq f.params)
  else if f.code = 0x33 then some (.watchClear p f.seq f.params)
  else if f.code = 0x40 then some (.fetch p f.seq f.params)
  else if f.code = 0x50 then some (.query p f.seq f.params)
  else if f.code = 0x51 then some (.find p f.seq f.params)
  else if f.code = 0x52 then some (.cancelMatch p f.seq f.params)
  else if f.code = 0x53 then some (.readCounts p f.seq f.params)
  else if f.code = 0x60 then some (.hold p f.seq f.params)
  else if f.code = 0x61 then some (.resume p f.seq f.params)
  else if f.code = 0x62 then some (.pauseClass p f.seq f.params)
  else if f.code = 0x63 then some (.unpauseClass p f.seq f.params)
  else if f.code = 0x64 then some (.setClassPolicy p f.seq f.params)
  else if f.code = 0x65 then some (.setTickDivisor p f.seq f.params)
  else if f.code = 0x66 then some (.setQuota p f.seq f.params)
  else if f.code = 0x67 then some (.setOrphanPolicy p f.seq f.params)
  else if f.code = 0x68 then some (.evict p f.seq f.params)
  else if f.code = 0x69 then some (.purge p f.seq f.params)
  else if f.code = 0x6A then some (.clearAll p f.seq f.params)
  else none

/-- The port and the frame of a host command (the command code table of R197); none for the rows that are
no command code's. -/
def Instr.frame (i : Instr) : Option (Port × Frame) :=
  match i with
  | .join p q ps => some (p, ⟨q, 0x01, ps⟩)
  | .setService p q ps => some (p, ⟨q, 0x02, ps⟩)
  | .leaveDrain p q ps => some (p, ⟨q, 0x03, ps⟩)
  | .leaveNow p q ps => some (p, ⟨q, 0x03, ps⟩)
  | .portStatus p q ps => some (p, ⟨q, 0x04, ps⟩)
  | .claimManager p q ps => some (p, ⟨q, 0x05, ps⟩)
  | .releaseManager p q ps => some (p, ⟨q, 0x06, ps⟩)
  | .submit p q ps => some (p, ⟨q, 0x10, ps⟩)
  | .cancel p q ps => some (p, ⟨q, 0x11, ps⟩)
  | .reap p q ps => some (p, ⟨q, 0x12, ps⟩)
  | .chainReset p q ps => some (p, ⟨q, 0x13, ps⟩)
  | .accept p q ps => some (p, ⟨q, 0x20, ps⟩)
  | .decline p q ps => some (p, ⟨q, 0x21, ps⟩)
  | .renew p q ps => some (p, ⟨q, 0x22, ps⟩)
  | .returnJob p q ps => some (p, ⟨q, 0x23, ps⟩)
  | .complete p q ps => some (p, ⟨q, 0x24, ps⟩)
  | .flagRead p q ps => some (p, ⟨q, 0x30, ps⟩)
  | .flagCombine p q ps => some (p, ⟨q, 0x31, ps⟩)
  | .watchSet p q ps => some (p, ⟨q, 0x32, ps⟩)
  | .watchClear p q ps => some (p, ⟨q, 0x33, ps⟩)
  | .fetch p q ps => some (p, ⟨q, 0x40, ps⟩)
  | .query p q ps => some (p, ⟨q, 0x50, ps⟩)
  | .find p q ps => some (p, ⟨q, 0x51, ps⟩)
  | .cancelMatch p q ps => some (p, ⟨q, 0x52, ps⟩)
  | .readCounts p q ps => some (p, ⟨q, 0x53, ps⟩)
  | .hold p q ps => some (p, ⟨q, 0x60, ps⟩)
  | .resume p q ps => some (p, ⟨q, 0x61, ps⟩)
  | .pauseClass p q ps => some (p, ⟨q, 0x62, ps⟩)
  | .unpauseClass p q ps => some (p, ⟨q, 0x63, ps⟩)
  | .setClassPolicy p q ps => some (p, ⟨q, 0x64, ps⟩)
  | .setTickDivisor p q ps => some (p, ⟨q, 0x65, ps⟩)
  | .setQuota p q ps => some (p, ⟨q, 0x66, ps⟩)
  | .setOrphanPolicy p q ps => some (p, ⟨q, 0x67, ps⟩)
  | .evict p q ps => some (p, ⟨q, 0x68, ps⟩)
  | .purge p q ps => some (p, ⟨q, 0x69, ps⟩)
  | .clearAll p q ps => some (p, ⟨q, 0x6A, ps⟩)
  | .commandFrameBad _ _ => none
  | .retransmission _ _ => none
  | .overrun _ _ => none
  | .badCommand _ _ => none
  | .responseRead _ _ => none
  | .resetNAssert => none
  | .resetNRelease => none
  | .prstNAssert _ => none
  | .prstNDeassert _ => none
  | .tick => none
  | .offerWindowExpiry _ => none
  | .leaseExpiry _ => none
  | .agePromotion _ => none
  | .offer => none
  | .scanVisit _ => none
  | .departureOfferWithdrawal _ => none
  | .departureReclaim _ => none
  | .orphanHandling _ => none
  | .departureWatchRelease _ => none
  | .departureNoticeClear _ => none
  | .departureScanAbandon _ => none
  | .goodFrameOnDownPort _ _ => none

/-- The host command that the bytes of a transaction on port `p` spell, none when they are no good frame of
a known command code. -/
def decodeCommand (p : Port) (bytes : List Byte) : Option Instr :=
  (checkFrame bytes).bind (commandOf p)

/-- The command a word spells by the bits of spec/opcode_table.json. The table gives no row bits. -/
def decodeTableWord (_nbits _w : Nat) : Option Instr := none

end Sys2Proof
end

