-- ==== Sys2Proof/Machine/Operands.lean ====
section
/-! DEFINITION. The parameter blocks of the commands, read from their bytes (R21, R197, R198, and each
command's own rule), and the bytes of response values and event records (R197, R199). A parameter
block that a rule refuses BAD_PARAM reads as none. -/

namespace Sys2Proof.Machine

/-! ### Codes of R196 and R197 -/

def Status.code (st : Status) : Byte :=
  match st with
  | .ok => 0
  | .badFrame => 1
  | .badCommand => 2
  | .badParam => 3
  | .wrongState => 4
  | .notPermitted => 5
  | .notManager => 6
  | .managerTaken => 7
  | .stale => 8
  | .notOwner => 9
  | .jobState => 10
  | .leaseLost => 11
  | .storeFull => 12
  | .quota => 13
  | .chainFull => 14
  | .chainClass => 15
  | .chainBroken => 16
  | .watchFull => 17
  | .holdRequired => 18
  | .interrupted => 19

def SlotState.code (st : SlotState) : Byte :=
  match st with
  | .free => 0
  | .queued => 1
  | .offered => 2
  | .active => 3
  | .done => 4
  | .retiring => 5
  | .quarantined => 6

def PortState.code (st : PortState) : Byte :=
  match st with
  | .down => 0
  | .idle => 1
  | .joined => 2
  | .leaving => 3

def FinishStatus.code (st : FinishStatus) : Byte :=
  match st with
  | .success => 0
  | .failed => 1
  | .cancelled => 2
  | .expired => 3
  | .chainBroken => 4

def Reason.code (r : Reason) : Byte :=
  match r with
  | .window => 0
  | .cancelled => 1
  | .leaving => 2
  | .dropped => 3
  | .expired => 4

def OrphanPolicy.code (o : OrphanPolicy) : Byte :=
  match o with
  | .drop => 0
  | .keep => 1

/-! ### Values of responses (R197) -/

/-- A number whose range lies within 0 to 255. -/
def num1 (n : Nat) : List Byte := [BitVec.ofNat 8 n]

/-- A number whose range lies within 0 to 65,535, little-endian. -/
def num2 (n : Nat) : List Byte := [BitVec.ofNat 8 n, BitVec.ofNat 8 (n / 256)]

/-- A word, little-endian. -/
def wordBytes (w : Word) : List Byte :=
  [w.setWidth 8, (w >>> 8).setWidth 8, (w >>> 16).setWidth 8, (w >>> 24).setWidth 8]

/-- A yes/no value is one byte, 0 for no and 1 for yes (R197). DESIGN CHOICE: the same byte stands for a value
that its rule calls on or off, set or clear, changed or not changed (log entry 10). -/
def yesNo (b : Bool) : List Byte := [if b then 1 else 0]

def handleBytes (h : Handle) : List Byte := [BitVec.ofNat 8 h.slot.val, h.gen]

/-- A port that may be none. -/
def portByte (p : Option Port) : List Byte :=
  match p with
  | some q => num1 q.val
  | none => [0xFF]

/-- A value of one byte that may be absent: a presence byte, and 0 when absent. -/
def optByte (v : Option Byte) : List Byte :=
  match v with
  | some b => [1, b]
  | none => [0, 0]

def rolesByte (r : Roles) : List Byte :=
  [(if r.producer then 1 else 0) ||| (if r.consumer then 2 else 0)]

/-! ### Event records (R199) -/

/-- Kind and parameter of a port notice. -/
def PortNotice.bytes (n : PortNotice) : List Byte :=
  match n with
  | .left => [1, 0]
  | .evicted => [2, 0]
  | .stalled => [3, 0]
  | .portStalled p => 4 :: portByte (some p)
  | .managerChanged p => 5 :: portByte p
  | .holdOn => [6, 0]
  | .holdOff => [7, 0]
  | .cleared => [8, 0]

/-- The event kind byte of a record. -/
def Event.kind (e : Event) : Byte :=
  match e with
  | .offer .. => 1
  | .offerWithdrawn .. => 2
  | .leaseLost .. => 3
  | .cancelRequest .. => 4
  | .jobDone .. => 5
  | .jobLost .. => 6
  | .chainBroken .. => 7
  | .watchHit .. => 8
  | .portNotice .. => 9

/-- The body of a record. -/
def Event.body (e : Event) : List Byte :=
  match e with
  | .offer h c u t ws =>
      handleBytes h ++ num1 c.val ++ num1 u ++ num2 t.toNat ++ num1 ws.length ++ ws.flatMap wordBytes
  | .offerWithdrawn h r => handleBytes h ++ [r.code]
  | .leaseLost h r => handleBytes h ++ [r.code]
  | .cancelRequest h => handleBytes h
  | .jobDone h st code => handleBytes h ++ [st.code] ++ optByte code
  | .jobLost h => handleBytes h
  | .chainBroken id h n => id :: handleBytes h ++ num1 n
  | .watchHit k f v => num1 k.val ++ num1 f.val ++ wordBytes v
  | .portNotice n => n.bytes

/-- A record: header and body. -/
def Event.bytes (e : Event) : List Byte := e.kind :: num1 e.body.length ++ e.body

/-! ### Response frames (R194) -/

/-- A response frame from its marker, sequence, status, flags and data. -/
def responseBytes (marker : Byte) (q : Seq) (st : Status) (flags : Byte) (data : List Byte) : List Byte :=
  let head := marker :: BitVec.zeroExtend 8 q :: st.code :: flags :: num2 data.length ++ data
  head ++ [crc8 head]

/-! ### Parameters (R197) -/

/-- A number below `n` in one byte. -/
def finOf (n : Nat) (b : Byte) : Option (Fin n) :=
  if h : b.toNat < n then some ⟨b.toNat, h⟩ else none

def slotOf (b : Byte) : SlotId := ⟨b.toNat, b.isLt⟩

def yesNoOf (b : Byte) : Option Bool :=
  if b = 0 then some false else if b = 1 then some true else none

def half (lo hi : Byte) : BitVec 16 := hi ++ lo

def word (b0 b1 b2 b3 : Byte) : Word := b3 ++ b2 ++ b1 ++ b0

/-- Words in a row; none when a word is cut short. -/
def wordsOf (bs : List Byte) : Option (List Word) :=
  match bs with
  | [] => some []
  | b0 :: b1 :: b2 :: b3 :: rest => (wordsOf rest).map (word b0 b1 b2 b3 :: ·)
  | _ => none

def fnOf (b : Byte) : Option CombineFn :=
  if b = 0 then some .replace else if b = 1 then some .and
  else if b = 2 then some .or else if b = 3 then some .xor else none

def whenOf (b : Byte) : Option When :=
  if b = 0 then some .successOnly else if b = 1 then some .anyFinish else none

def orphanOf (b : Byte) : Option OrphanPolicy :=
  if b = 0 then some .drop else if b = 1 then some .keep else none

/-- A class that may be ANY, written 0xFF: `some none` is ANY. -/
def classOrAny (b : Byte) : Option (Option ClassId) :=
  if b = 0xFF then some none else (finOf 8 b).map some

/-- A parameter block of one handle. -/
def parseHandle (ps : List Byte) : Option Handle :=
  match ps with
  | [s, g] => some ⟨slotOf s, g⟩
  | _ => none

/-- A parameter block of no bytes. -/
def parseEmpty (ps : List Byte) : Option Unit :=
  match ps with
  | [] => some ()
  | _ => none

/-- A parameter block of one number below `n`. -/
def parseFin (n : Nat) (ps : List Byte) : Option (Fin n) :=
  match ps with
  | [b] => finOf n b
  | _ => none

/-- JOIN's parameters as the port record takes them (R148, R149): a producer-only port's credits, mask and
floor are ignored and stand at 0. -/
structure JoinParams where
  roles : Roles
  credits : Nat
  mask : BitVec 8
  floor : Nat
deriving DecidableEq, Repr

def parseJoin (ps : List Byte) : Option JoinParams :=
  match ps with
  | [r, c, m, f] =>
    let roles : Roles := ⟨r.getLsbD 0, r.getLsbD 1⟩
    if !roles.producer && !roles.consumer then none
    else if roles.consumer then
      if c.toNat = 0 ∨ c.toNat > 16 ∨ f.toNat > 15 then none
      else some ⟨roles, c.toNat, m, f.toNat⟩
    else some ⟨roles, 0, 0, 0⟩
  | _ => none

/-- SET_SERVICE's mask and floor (R150). -/
def parseService (ps : List Byte) : Option (BitVec 8 × Nat) :=
  match ps with
  | [m, f] => if f.toNat > 15 then none else some (m, f.toNat)
  | _ => none

/-- LEAVE's mode and orphan choice (R151). -/
inductive LeaveParams where
  | drain
  | now (o : OrphanPolicy)
deriving DecidableEq, Repr

def parseLeave (ps : List Byte) : Option LeaveParams :=
  match ps with
  | [m, o] => if m = 0 then some .drain else if m = 1 then (orphanOf o).map .now else none
  | _ => none

/-- SUBMIT's parameters (section 2.1). -/
structure SubmitParams where
  cls : ClassId
  urgency : Nat
  report : Bool
  strict : Bool
  chainId : BitVec 8
  tag : BitVec 16
  leaseLimit : Nat
  attemptLimit : Nat
  action : Option Action
  payload : List Word
deriving DecidableEq, Repr

/-- The completion action and the rest of a SUBMIT block after its tenth byte (R198). -/
def parseAction (present : Bool) (bs : List Byte) : Option (Option Action × List Byte) :=
  if present then
    match bs with
    | f :: fn :: w :: o0 :: o1 :: o2 :: o3 :: m0 :: m1 :: m2 :: m3 :: rest =>
      match finOf 64 f, fnOf fn, whenOf w with
      | some flag, some fn', some w' =>
        some (some ⟨flag, fn', w', word o0 o1 o2 o3, word m0 m1 m2 m3⟩, rest)
      | _, _, _ => none
    | _ => none
  else some (none, bs)

/-- A SUBMIT parameter block (R21, R198). -/
def parseSubmit (ps : List Byte) : Option SubmitParams :=
  match ps with
  | c :: u :: fl :: ch :: t0 :: t1 :: l0 :: l1 :: a :: n :: rest =>
    match finOf 8 c, parseAction (fl.getLsbD 2) rest with
    | some cls, some (action, tail) =>
      match wordsOf tail with
      | some payload =>
        if u.toNat > 15 ∨ a.toNat > 7 ∨ n.toNat > 8 ∨ payload.length ≠ n.toNat then none
        else some ⟨cls, u.toNat, fl.getLsbD 0, fl.getLsbD 1, ch, half t0 t1, (half l0 l1).toNat, a.toNat,
          action, payload⟩
      | none => none
    | _, _ => none
  | _ => none

/-- RENEW's handle and extension (R77). -/
def parseRenew (ps : List Byte) : Option (Handle × Nat) :=
  match ps with
  | [s, g, e0, e1] => some (⟨slotOf s, g⟩, (half e0 e1).toNat)
  | _ => none

/-- RETURN's handle and avoid flag (R78). -/
def parseReturn (ps : List Byte) : Option (Handle × Bool) :=
  match ps with
  | [s, g, a] => (yesNoOf a).map fun b => (⟨slotOf s, g⟩, b)
  | _ => none

/-- The outcomes of COMPLETE (R80). -/
def outcomeOf (b : Byte) : Option FinishStatus :=
  if b = 0 then some .success else if b = 1 then some .failed
  else if b = 2 then some .cancelled else none

/-- COMPLETE's parameters (R80). -/
structure CompleteParams where
  handle : Handle
  outcome : FinishStatus
  userCode : Byte
  result : List Word
deriving DecidableEq, Repr

def parseComplete (ps : List Byte) : Option CompleteParams :=
  match ps with
  | s :: g :: o :: u :: n :: rest =>
    match outcomeOf o, wordsOf rest with
    | some st, some ws =>
      if n.toNat > 4 ∨ ws.length ≠ n.toNat then none else some ⟨⟨slotOf s, g⟩, st, u, ws⟩
    | _, _ => none
  | _ => none

/-- FLAG_COMBINE's parameters (section 6.2). -/
structure CombineParams where
  flag : FlagId
  fn : CombineFn
  fromLatch : Bool
  latchEqual : Bool
  operand : Word
  mask : Word
  care : Word
deriving DecidableEq, Repr

def parseCombine (ps : List Byte) : Option CombineParams :=
  match ps with
  | [f, fn, src, cond, o0, o1, o2, o3, m0, m1, m2, m3, c0, c1, c2, c3] =>
    match finOf 64 f, fnOf fn, yesNoOf src, yesNoOf cond with
    | some flag, some fn', some src', some cond' =>
      some ⟨flag, fn', src', cond', word o0 o1 o2 o3, word m0 m1 m2 m3, word c0 c1 c2 c3⟩
    | _, _, _, _ => none
  | _ => none

/-- WATCH_SET's parameters (R122). -/
structure WatchParams where
  flag : FlagId
  mode : WatchMode
  care : Word
  pattern : Word
deriving DecidableEq, Repr

def watchModeOf (b : Byte) : Option WatchMode :=
  if b = 0 then some .once else if b = 1 then some .persist else none

def parseWatch (ps : List Byte) : Option WatchParams :=
  match ps with
  | [f, m, c0, c1, c2, c3, p0, p1, p2, p3] =>
    match finOf 64 f, watchModeOf m with
    | some flag, some mode => some ⟨flag, mode, word c0 c1 c2 c3, word p0 p1 p2 p3⟩
    | _, _ => none
  | _ => none

/-- FETCH's count, 1 to 8 (R133). -/
def parseFetch (ps : List Byte) : Option Nat :=
  match ps with
  | [n] => if n.toNat = 0 ∨ n.toNat > 8 then none else some n.toNat
  | _ => none

/-- FIND's parameters (section 9.4); `continues` is the mode CONTINUE. -/
structure FindParams where
  continues : Bool
  states : StateSet
  cls : Option ClassId
  tagKey : BitVec 16
  care : BitVec 16
deriving DecidableEq, Repr

/-- A FIND state set: not empty, and no bit above bit 4 (R168, R197). -/
def stateSetOf (b : Byte) : Option StateSet :=
  if b = 0 ∨ b.toNat ≥ 32 then none
  else some ⟨b.getLsbD 0, b.getLsbD 1, b.getLsbD 2, b.getLsbD 3, b.getLsbD 4⟩

def parseFind (ps : List Byte) : Option FindParams :=
  match ps with
  | [m, st, c, t0, t1, k0, k1] =>
    match yesNoOf m, stateSetOf st, classOrAny c with
    | some cont, some states, some cls => some ⟨cont, states, cls, half t0 t1, half k0 k1⟩
    | _, _, _ => none
  | _ => none

/-- CANCEL_MATCH's parameters (R170). -/
structure MatchParams where
  includeOffered : Bool
  cls : Option ClassId
  tagKey : BitVec 16
  care : BitVec 16
deriving DecidableEq, Repr

def parseCancelMatch (ps : List Byte) : Option MatchParams :=
  match ps with
  | [i, c, t0, t1, k0, k1] =>
    match yesNoOf i, classOrAny c with
    | some inc, some cls => some ⟨inc, cls, half t0 t1, half k0 k1⟩
    | _, _ => none
  | _ => none

/-- SET_CLASS_POLICY's class and row (R181): class, offer window, default attempts, age ceiling, default
lease, age step (R197). -/
def parsePolicy (ps : List Byte) : Option (ClassId × ClassPolicy) :=
  match ps with
  | [c, w, a, ce, l0, l1, s0, s1] =>
    match finOf 8 c with
    | some cls =>
      if w.toNat = 0 ∨ (half l0 l1).toNat = 0 ∨ a.toNat = 0 ∨ a.toNat > 7 ∨ ce.toNat > 15 then none
      else some (cls, ⟨w.toNat, (half l0 l1).toNat, a.toNat, (half s0 s1).toNat, ce.toNat⟩)
    | none => none
  | _ => none

/-- SET_TICK_DIVISOR's divisor (R179). -/
def parseDivisor (ps : List Byte) : Option Nat :=
  match ps with
  | [d0, d1] => if (half d0 d1).toNat = 0 then none else some (half d0 d1).toNat
  | _ => none

/-- SET_QUOTA's port and quota (R184). -/
def parseQuota (ps : List Byte) : Option (Port × Nat) :=
  match ps with
  | [p, q0, q1] =>
    match finOf 4 p with
    | some port => if (half q0 q1).toNat > 256 then none else some (port, (half q0 q1).toNat)
    | none => none
  | _ => none

/-- SET_ORPHAN_POLICY's policy (R185). -/
def parseOrphan (ps : List Byte) : Option OrphanPolicy :=
  match ps with
  | [o] => orphanOf o
  | _ => none

/-- CHAIN_RESET's chain id, which is not 0 (R40). -/
def parseChainId (ps : List Byte) : Option (BitVec 8) :=
  match ps with
  | [c] => if c = 0 then none else some c
  | _ => none

/-- PURGE's slot number (R17). -/
def parseSlot (ps : List Byte) : Option SlotId :=
  match ps with
  | [s] => some (slotOf s)
  | _ => none

end Sys2Proof.Machine
end

