-- ==== Sys2Proof/Machine/Ops.lean ====
section
/-! DEFINITION. The named operations over the state: reading and changing one record, the views of log
entry 3, the Notice Unit (chapter 7), the class queues (chapter 2), the chain lists, and the Link
Interface's answer (chapter 11). -/

namespace Sys2Proof.Machine

/-! ### One record -/

/-- Every element of a vector through `f`. -/
def mapV {α β : Type} {n : Nat} (f : α → β) (v : Vector α n) : Vector β n :=
  ⟨⟨v.toList.map f⟩, by simp⟩

def allPorts : List Port := List.finRange 4

def allSlots : List SlotId := List.finRange 256

def allChains : List ChainId := List.finRange 64

def allWatches : List WatchId := List.finRange 16

def allClasses : List ClassId := List.finRange 8

def State.port (s : State) (p : Port) : PortRec := s.ports[p]

def State.slot (s : State) (i : SlotId) : Slot := s.slots[i]

def State.job (s : State) (i : SlotId) : Job := (s.slot i).job

def State.chain (s : State) (e : ChainId) : ChainEntry := s.chains[e]

def State.watch (s : State) (k : WatchId) : Watch := s.watches[k]

def State.flagWord (s : State) (f : FlagId) : Word := s.words[f]

def State.classQueue (s : State) (c : ClassId) : List SlotId := s.classQueues[c]

def State.policyOf (s : State) (c : ClassId) : ClassPolicy := s.policy[c]

def State.isPaused (s : State) (c : ClassId) : Bool := s.paused[c]

def State.modPort (s : State) (p : Port) (f : PortRec → PortRec) : State :=
  { s with ports := s.ports.set p (f (s.port p)) }

def State.modSlot (s : State) (i : SlotId) (f : Slot → Slot) : State :=
  { s with slots := s.slots.set i (f (s.slot i)) }

def State.modChain (s : State) (e : ChainId) (f : ChainEntry → ChainEntry) : State :=
  { s with chains := s.chains.set e (f (s.chain e)) }

def State.modWatch (s : State) (k : WatchId) (f : Watch → Watch) : State :=
  { s with watches := s.watches.set k (f (s.watch k)) }

def State.modQueue (s : State) (c : ClassId) (f : List SlotId → List SlotId) : State :=
  { s with classQueues := s.classQueues.set c (f (s.classQueue c)) }

/-- A block writes fields of a job record, and the Job Store recomputes the check code (R13). -/
def State.writeSlot (s : State) (i : SlotId) (f : Slot → Slot) : State :=
  s.modSlot i fun sl => { f sl with checkOk := true }

def State.writeJob (s : State) (i : SlotId) (f : Job → Job) : State :=
  s.writeSlot i fun sl => { sl with job := f sl.job }

def State.handle (s : State) (i : SlotId) : Handle := ⟨i, (s.slot i).gen⟩

/-- QUEUED, OFFERED or ACTIVE. -/
def SlotState.live (st : SlotState) : Bool :=
  match st with
  | .queued => true
  | .offered => true
  | .active => true
  | _ => false

/-- The states in which a read tests the record (R13). -/
def SlotState.tested (st : SlotState) : Bool := st.live || st == .done

/-- The slot has a record that fails its integrity test (R13). -/
def State.testFails (s : State) (i : SlotId) : Bool :=
  (s.slot i).state.tested && !(s.slot i).checkOk

/-- The handle test (R3). -/
def State.handleOk (s : State) (h : Handle) : Bool :=
  (s.slot h.slot).gen == h.gen && (s.slot h.slot).state != .free && (s.slot h.slot).state != .retiring

/-! ### Views (log entry 3) -/

/-- The offer set of a port, in ascending slot order (R45). -/
def State.offerSet (s : State) (p : Port) : List SlotId :=
  allSlots.filter fun i => (s.slot i).state == .offered && (s.job i).consumer == some p

/-- A port's load (R45). -/
def State.load (s : State) (p : Port) : Nat := (s.offerSet p).length + (s.port p).workingSet.length

/-- The done set of a producer (R101). -/
def State.doneSet (s : State) (p : Port) : List SlotId :=
  allSlots.filter fun i => (s.slot i).state == .done && (s.job i).producer == some p

/-- How many slots are in a state. -/
def State.countState (s : State) (st : SlotState) : Nat :=
  allSlots.countP fun i => (s.slot i).state == st

/-- The jobs a port produced in QUEUED, OFFERED, ACTIVE or DONE (R153). -/
def State.produced (s : State) (p : Port) : List SlotId :=
  allSlots.filter fun i => (s.slot i).state.tested && (s.job i).producer == some p

/-- A forced departure of the port is in progress (R144). -/
def State.departing (s : State) (p : Port) : Bool := (s.port p).departure.isSome

def State.isManager (s : State) (p : Port) : Bool := s.manager == some p

def State.joined (s : State) (p : Port) : Bool := (s.port p).state == .joined

/-- Ticks to a deadline, 0 when it is due (R178). -/
def State.ticksTo (s : State) (d : Word) : Nat :=
  if (d - s.timeBase).toNat ≤ Config.maxAhead then (d - s.timeBase).toNat else 0

/-- The deadline is reached or passed (R178). -/
def State.due (s : State) (d : Option Word) : Bool :=
  match d with
  | some v => s.ticksTo v == 0
  | none => false

/-- Now plus a number of ticks (R178). -/
def State.after (s : State) (n : Nat) : Word := s.timeBase + BitVec.ofNat 32 n

/-! ### Owed marks (R135) -/

/-- The slot holds a producer mark owed to the port. -/
def Slot.owesProducer (sl : Slot) (p : Port) : Bool :=
  match sl.producerMark with
  | some m => m.port == p
  | none => false

def Slot.owesConsumer (sl : Slot) (p : Port) : Bool := (sl.consumerMarks[p]).isSome

/-- The slot holds a mark owed to some port (R11). -/
def Slot.marked (sl : Slot) : Bool := sl.producerMark.isSome || sl.consumerMarks.toList.any Option.isSome

def NoticeSet.any (n : NoticeSet) : Bool :=
  n.left || n.evicted || n.stalled || n.portStalled.isSome || n.managerChanged.isSome || n.holdOn
    || n.holdOff || n.cleared

def ChainEntry.owes (c : ChainEntry) (p : Port) : Bool := c.owed.isSome && c.owner == some p

def Watch.owes (w : Watch) (p : Port) : Bool := w.state == .pending && w.owner == some p

/-- Any mark is owed to the port (R135, R194). -/
def State.owed (s : State) (p : Port) : Bool :=
  (s.port p).notices.any
    || s.slots.toList.any (fun sl => sl.owesProducer p || sl.owesConsumer p)
    || s.chains.toList.any (fun c => c.owes p)
    || s.watches.toList.any (fun w => w.owes p)

/-- The attention output of the port is asserted (R132). -/
def State.attention (s : State) (p : Port) : Bool :=
  (s.port p).state != .down && !(s.port p).queue.isEmpty

/-! ### Passing a notice (R131) -/

/-- The port's event queue has a free entry. -/
def State.queueRoom (s : State) (p : Port) : Bool := (s.port p).queue.length < Config.queueCapacity

/-- A notice for the port is queued: its queue has a free entry and no mark is owed to it (R131). -/
def State.room (s : State) (p : Port) : Bool := s.queueRoom p && !s.owed p

def State.enqueue (s : State) (p : Port) (e : Event) : State :=
  s.modPort p fun r => { r with queue := r.queue ++ [e] }

/-- The Notice Unit takes a notice for port `p`: discarded for a port in DOWN, queued when there is room,
owed otherwise, as `owe` records it (R131). -/
def State.notify (s : State) (p : Port) (e : Event) (owe : State → State) : State :=
  if (s.port p).state = .down then s
  else if s.room p then s.enqueue p e
  else owe s

def ProducerNotice.event (n : ProducerNotice) (h : Handle) : Event :=
  match n with
  | .jobDone st code => .jobDone h st code
  | .jobLost => .jobLost h

def ConsumerNotice.event (n : ConsumerNotice) (h : Handle) : Event :=
  match n with
  | .offerWithdrawn r => .offerWithdrawn h r
  | .leaseLost r => .leaseLost h r
  | .cancelRequest => .cancelRequest h
  | .jobLost => .jobLost h

/-- Set, replace or remove a slot's consumer mark for a port (R137). -/
def State.setConsumerMark (s : State) (i : SlotId) (p : Port) (n : Option ConsumerNotice) : State :=
  s.writeSlot i fun sl => { sl with consumerMarks := sl.consumerMarks.set p n }

/-- Set, replace or remove a slot's producer mark (R137). -/
def State.setProducerMark (s : State) (i : SlotId) (m : Option ProducerMark) : State :=
  s.writeSlot i fun sl => { sl with producerMark := m }

/-- A notice about the job in slot `i` for port `p` as its producer. -/
def State.notifyProducer (s : State) (i : SlotId) (p : Port) (n : ProducerNotice) : State :=
  s.notify p (n.event (s.handle i)) fun t => t.setProducerMark i (some ⟨p, n⟩)

/-- A notice about the job in slot `i` for port `p` in its consumer role. -/
def State.notifyConsumer (s : State) (i : SlotId) (p : Port) (n : ConsumerNotice) : State :=
  s.notify p (n.event (s.handle i)) fun t => t.setConsumerMark i p (some n)

/-- The job's producer, if the field is present, is passed a notice. -/
def State.tellProducer (s : State) (i : SlotId) (n : ProducerNotice) : State :=
  match (s.job i).producer with
  | some p => s.notifyProducer i p n
  | none => s

/-- The port named, if any, is passed a consumer notice. -/
def State.tellConsumer (s : State) (i : SlotId) (p : Option Port) (n : ConsumerNotice) : State :=
  match p with
  | some q => s.notifyConsumer i q n
  | none => s

/-- An owed port notice sets its kind's flag; HOLD_ON and HOLD_OFF do not stand together (R136). -/
def NoticeSet.add (ns : NoticeSet) (n : PortNotice) : NoticeSet :=
  match n with
  | .left => { ns with left := true }
  | .evicted => { ns with evicted := true }
  | .stalled => { ns with stalled := true }
  | .portStalled p => { ns with portStalled := some p }
  | .managerChanged p => { ns with managerChanged := some p }
  | .holdOn => { ns with holdOn := true, holdOff := false }
  | .holdOff => { ns with holdOff := true, holdOn := false }
  | .cleared => { ns with cleared := true }

def State.notifyPort (s : State) (p : Port) (n : PortNotice) : State :=
  s.notify p (.portNotice n) fun t => t.modPort p fun r => { r with notices := r.notices.add n }

/-- A port notice for every JOINED port, in port order (R136, R160). -/
def State.notifyJoined (s : State) (n : PortNotice) : State :=
  allPorts.foldl (fun t p => if t.joined p then t.notifyPort p n else t) s

/-! ### Class queues (R24 to R28) -/

/-- Distance of a queue sequence behind the counter (R24). -/
def State.distance (s : State) (i : SlotId) : Nat := (s.seqCounter - (s.job i).qseq).toNat

/-- Job `i`'s order key ranks ahead of job `j`'s (R24). -/
def State.ahead (s : State) (i j : SlotId) : Bool :=
  (s.job j).urgency < (s.job i).urgency
    || (s.job j).urgency == (s.job i).urgency && s.distance j < s.distance i

/-- Place `i` before the first job that `i` ranks ahead of (R24). DESIGN CHOICE: this is also where `i` enters a queue
whose order no longer agrees with the present distances, after 2^32 SUBMITs in the life of one of its jobs, so that
R24's place after all ranked ahead and before all ranked behind does not exist (log entry 21). -/
def insertKey (aheadOf : SlotId → Bool) (i : SlotId) (q : List SlotId) : List SlotId :=
  match q with
  | [] => [i]
  | j :: js => if aheadOf j then i :: j :: js else j :: insertKey aheadOf i js

/-- Insert the job into the queue of its class by the order key (R24). -/
def State.enterQueue (s : State) (i : SlotId) : State :=
  s.modQueue (s.job i).cls (insertKey (s.ahead i) i)

/-- Take the job out of its class queue; the jobs behind keep their order (R27). -/
def State.leaveQueue (s : State) (i : SlotId) : State := s.modQueue (s.job i).cls (·.erase i)

/-- A requeue (R28): the consumer and deadline are cleared, queued since is now, and the job enters its
class queue with its urgency and sequence. -/
def State.requeue (s : State) (i : SlotId) : State :=
  (s.writeSlot i fun sl =>
    { sl with
      state := .queued
      promoDue := 0
      job := { sl.job with consumer := none, deadline := none, queuedSince := some s.timeBase } }).enterQueue i

/-! ### Chain lists (R33, R34) -/

/-- The chain entry whose chain list holds the job. -/
def State.inChain (s : State) (i : SlotId) : Option ChainId :=
  match (s.job i).chain with
  | some (_, e) => if (s.chain e).list.contains i then some e else none
  | none => none

/-- The job leaves its chain list; the jobs behind keep their order (R33). -/
def State.leaveChain (s : State) (i : SlotId) : State :=
  match s.inChain i with
  | some e => s.modChain e fun c => { c with list := c.list.erase i }
  | none => s

/-- The non-FREE entry keyed to the port and chain id (R31). -/
def State.findChain (s : State) (p : Port) (id : BitVec 8) : Option ChainId :=
  allChains.find? fun e =>
    (s.chain e).state != .free && (s.chain e).owner == some p && (s.chain e).chainId == id

/-- The lowest-indexed FREE entry (R32). -/
def State.freeChain (s : State) : Option ChainId := allChains.find? fun e => (s.chain e).state == .free

/-! ### Working sets (R72) -/

/-- The job leaves its consumer's offer set or working set: it leaves the list that holds it, and its
consumer and deadline are cleared (R74, R58). -/
def State.leaveConsumer (s : State) (i : SlotId) : State :=
  let t := match (s.slot i).state, (s.job i).consumer with
    | .active, some p => s.modPort p fun r => { r with workingSet := r.workingSet.erase i }
    | _, _ => s
  t.writeJob i fun j => { j with consumer := none, deadline := none }

/-! ### Combines (R118, R119, R123 to R125) -/

/-- A hit of entry `k` at value `v`: WATCH_HIT is queued, or the entry becomes PENDING (R124). -/
def State.watchHit (s : State) (k : WatchId) (v : Word) : State :=
  match (s.watch k).owner with
  | none => s
  | some p =>
    if (s.port p).state ≠ .down ∧ s.room p = false then
      s.modWatch k fun w =>
        { w with state := .pending, held := some v, lastMatched := w.mode == .persist || w.lastMatched }
    else
      (s.notify p (.watchHit k (s.watch k).flag v) id).modWatch k fun w =>
        match w.mode with
        | .once => Watch.cleared
        | .persist => { w with lastMatched := true }

/-- One evaluation of entry `k` against value `v` (R123). -/
def State.evalWatch (s : State) (k : WatchId) (v : Word) : State :=
  if (s.watch k).hits v then s.watchHit k v
  else s.modWatch k fun w =>
    match w.mode with
    | .once => w
    | .persist => { w with lastMatched := w.matchesValue v }

/-- The ARMED entries on the word are evaluated in ascending entry index (R123). -/
def State.evalWatches (s : State) (f : FlagId) (v : Word) : State :=
  allWatches.foldl (fun t k => if (t.watch k).state = .armed ∧ (t.watch k).flag = f then t.evalWatch k v else t) s

/-- An applied combine (R112). -/
def State.applyCombine (s : State) (f : FlagId) (fn : CombineFn) (operand mask : Word) : State :=
  let v := combine fn (s.flagWord f) operand mask
  { s with words := s.words.set f v }.evalWatches f v

/-- A PENDING entry leaves PENDING with its hit delivered or discarded (R125, R128). -/
def State.settleWatch (s : State) (k : WatchId) : State :=
  s.modWatch k fun w =>
    match w.mode with
    | .once => Watch.cleared
    | .persist =>
      { w with state := .armed, held := none, lastMatched := w.matchesValue (s.flagWord w.flag) }

/-- The watch entries a port owns. -/
def State.watchesOf (s : State) (p : Port) : List WatchId :=
  allWatches.filter fun k => (s.watch k).state != .free && (s.watch k).owner == some p

/-- Free the port's watch entries with their owed hits and empty its latch (R127). -/
def State.freeWatches (s : State) (p : Port) : State :=
  ((s.watchesOf p).foldl (fun t k => t.modWatch k fun _ => Watch.cleared) s).modPort p
    fun r => { r with latch := none }

/-! ### The link (R192, R194) -/

/-- A command's answer: a status and the response data. -/
structure Reply where
  status : Status
  data : List Byte
deriving DecidableEq, Repr

/-- What taking a command gives: the state, and its reply, or none while it stays in flight (R193). -/
abbrev Taken := State × Option Reply

/-- Refused with no data (R196). -/
def refuse (st : Status) (s : State) : Taken := (s, some ⟨st, []⟩)

def accepted (data : List Byte) (s : State) : Taken := (s, some ⟨.ok, data⟩)

/-- The result of a port's in-flight command is ready: it is written into the response buffer and the retry
cache, and the in-flight flag is cleared (R192). -/
def State.answer (s : State) (p : Port) (r : Reply) : State :=
  s.modPort p fun pr =>
    let resp : Resp := ⟨pr.link.lastSeq.getD 0, r.status, r.data⟩
    { pr with link := { pr.link with cached := some resp, buffer := some resp, inFlight := false } }

/-- The answer of a scan's command, if it is still in flight: port reset clears the link of a scan that the
departure has yet to abandon (R195). -/
def State.answerInFlight (s : State) (p : Port) (r : Reply) : State :=
  if (s.port p).link.inFlight then s.answer p r else s

/-! ### Admission (R147) -/

/-- The port's state is admitted and its departing flag is clear (R147). -/
def State.admits (s : State) (p : Port) (states : List PortState) : Bool :=
  !s.departing p && states.contains (s.port p).state

def inJoined : List PortState := [.joined]

def inSession : List PortState := [.joined, .leaving]

def inAny : List PortState := [.idle, .joined, .leaving]

/-- A manager command: the port-state and claim steps, then the parameter step, then the command's own
effect (R147, R176). -/
def managerCommand {α : Type} (p : Port) (params : Option α) (s : State) (k : α → Taken) : Taken :=
  if !s.admits p inSession then refuse .wrongState s
  else if !s.isManager p then refuse .notManager s
  else match params with
    | none => refuse .badParam s
    | some a => k a

end Sys2Proof.Machine
end

