-- ==== Sys2Proof/Machine/Finishing.lean ====
section
/-! DEFINITION. How a job ends: quarantine (R15), the break of a strict chain (R37), the finishing procedure
(R95 to R98), release (R11), orphan handling (R106 to R109), and the close of an event (R35, R12, R99,
R153); and how a session ends: the drop of the manager claim (R160), the end of a drain (R153), the
start of a forced departure (R154). -/

namespace Sys2Proof.Machine

/-! ### Leaving a collection, and release -/

/-- The slot leaves the collection of its state (R5): the class queue or its consumer's set. -/
def State.leaveCollection (s : State) (i : SlotId) : State :=
  match (s.slot i).state with
  | .queued => s.leaveQueue i
  | .offered => s.leaveConsumer i
  | .active => s.leaveConsumer i
  | _ => s

/-- The job's count against its producer's quota ends (R10). -/
def State.endCount (s : State) (i : SlotId) : State :=
  match (s.job i).producer with
  | some p => s.modPort p fun r => { r with quotaCount := r.quotaCount - 1 }
  | none => s

/-- Release (R11). The slot keeps its generation and its marks and every other field is cleared. It stands
in RETIRING until the close of the event, which frees it if no mark is owed (R12, R99; log entry 15). A
quarantined job's count has already ended (R15). -/
def State.release (s : State) (i : SlotId) : State :=
  (if (s.slot i).state = .quarantined then s else s.endCount i).modSlot i fun sl =>
    { sl with state := .retiring, checkOk := true, promoDue := 0, job := Job.cleared }

/-- The producer mark owed to the port, if the record holds one, is discarded (R107). -/
def State.dropProducerMark (s : State) (i : SlotId) (p : Port) : State :=
  if (s.slot i).owesProducer p then s.setProducerMark i none else s

/-! ### The finishing procedure (R95 to R98) -/

/-- Step 1 (R95): the job leaves the collection that holds it and its chain list. -/
def State.leaveLive (s : State) (i : SlotId) : State :=
  ((s.leaveCollection i).leaveChain i).writeSlot i fun sl =>
    { sl with
      promoDue := 0
      job := { sl.job with
        consumer := none, deadline := none, queuedSince := none
        declined := Vector.replicate 4 false, reclaimedFrom := none, cancelRequested := false } }

/-- Step 3's table (R97). -/
def When.applies (w : When) (st : FinishStatus) : Bool :=
  match w with
  | .successOnly => st == .success
  | .anyFinish => true

/-- Step 3 (R97): the completion action is handed to the Flag Unit. -/
def State.applyAction (s : State) (i : SlotId) (st : FinishStatus) : State :=
  match (s.job i).action with
  | some a => if a.when.applies st then s.applyCombine a.flag a.fn a.operand a.mask else s
  | none => s

/-- Step 4 (R98): the job enters DONE with JOB_DONE for its producer, or is released. -/
def State.record (s : State) (i : SlotId) (st : FinishStatus) : State :=
  if (s.job i).report then
    (s.writeSlot i fun sl => { sl with state := .done, job := { sl.job with finish := some st } }).tellProducer i
      (.jobDone st (s.job i).userCode)
  else s.release i

/-- Steps 3 and 4. -/
def State.finishTail (s : State) (i : SlotId) (st : FinishStatus) : State :=
  (s.applyAction i st).record i st

/-! ### Quarantine without a break, and the break procedure -/

/-- The port that holds an OFFERED or ACTIVE job (R15 step 5). -/
def State.holder (s : State) (i : SlotId) : Option Port :=
  match (s.slot i).state with
  | .offered => (s.job i).consumer
  | .active => (s.job i).consumer
  | _ => none

/-- The slot leaves its collection and its chain list, its count ends, and it enters QUARANTINED (R15). -/
def State.enterQuarantine (s : State) (i : SlotId) : State :=
  (((s.leaveCollection i).leaveChain i).endCount i).modSlot i fun sl =>
    { sl with
      state := .quarantined
      checkOk := true
      promoDue := 0
      job := { sl.job with
        consumer := none, deadline := none, declined := Vector.replicate 4 false, queuedSince := none
        cancelRequested := false, reclaimedFrom := none, finish := none, userCode := none, result := none
        lostHolder := s.holder i } }

/-- JOB_LOST for the producer, and for the port that held the job (R15 step 3). -/
def State.passLost (s : State) (i : SlotId) (holder : Option Port) : State :=
  (s.tellProducer i .jobLost).tellConsumer i holder .jobLost

/-- A job whose record fails within its chain's break: quarantined, and no second break (R37). -/
def State.quarantineInBreak (s : State) (i : SlotId) : State :=
  (s.enterQuarantine i).passLost i (s.holder i)

/-- An OFFERED or ACTIVE front ended by the break: it leaves its consumer, which is told (R38). -/
def State.endHold (s : State) (i : SlotId) : State :=
  match (s.slot i).state with
  | .offered => (s.leaveConsumer i).tellConsumer i (s.job i).consumer (.offerWithdrawn .cancelled)
  | .active => (s.leaveConsumer i).tellConsumer i (s.job i).consumer (.leaseLost .dropped)
  | _ => s

/-- One job of step 1 of the break procedure, with the count of jobs finished so far (R37). -/
def breakJob (acc : State × Nat) (j : SlotId) : State × Nat :=
  if acc.1.testFails j then (acc.1.quarantineInBreak j, acc.2)
  else (((acc.1.endHold j).leaveLive j).finishTail j .chainBroken, acc.2 + 1)

/-- CHAIN_BROKEN for the entry's producer, queued or set as the entry's owed mark; none for an entry keyed
to port none (R39). -/
def State.passChainBroken (s : State) (e : ChainId) (failing : Handle) (n : Nat) : State :=
  match (s.chain e).owner with
  | some p =>
    s.notify p (.chainBroken (s.chain e).chainId failing n) fun t =>
      t.modChain e fun c => { c with owed := some ⟨c.chainId, failing, n⟩ }
  | none => s

/-- The break procedure (R37). -/
def State.breakChain (s : State) (e : ChainId) (failing : Handle) : State :=
  let r := (s.chain e).list.foldl breakJob (s, 0)
  (r.1.modChain e fun c => { c with state := .broken, breakRec := some (failing, r.2) }).passChainBroken e
    failing r.2

/-- Break the entry if it is strict. -/
def State.breakIfStrict (s : State) (e : Option ChainId) (failing : Handle) : State :=
  match e with
  | some e => if (s.chain e).strict then s.breakChain e failing else s
  | none => s

/-- Quarantine (R15). -/
def State.quarantine (s : State) (i : SlotId) : State :=
  ((s.enterQuarantine i).breakIfStrict (s.inChain i) (s.handle i)).passLost i (s.holder i)

/-- A read of the record by a block: a record that fails is quarantined (R13). -/
def State.readRecord (s : State) (i : SlotId) : State := if s.testFails i then s.quarantine i else s

/-- Step 2's statuses (R96). -/
def FinishStatus.breaks (st : FinishStatus) : Bool :=
  match st with
  | .failed => true
  | .expired => true
  | _ => false

/-- The finishing procedure (R95 to R98). -/
def State.finishJob (s : State) (i : SlotId) (st : FinishStatus) : State :=
  let t := s.leaveLive i
  (if st.breaks then t.breakIfStrict (s.inChain i) (s.handle i) else t).finishTail i st

/-- The end of an offer by a cancel, with its finish (R58). -/
def State.cancelOffered (s : State) (i : SlotId) : State :=
  ((s.leaveConsumer i).tellConsumer i (s.job i).consumer (.offerWithdrawn .cancelled)).finishJob i .cancelled

/-! ### Orphan handling (R106 to R109) -/

/-- A discard under DROP (R107). -/
def State.discard (s : State) (i : SlotId) (p : Port) : State :=
  let t := s.leaveCollection i
  let t := match (s.slot i).state with
    | .offered => t.tellConsumer i (s.job i).consumer (.offerWithdrawn .dropped)
    | .active => t.tellConsumer i (s.job i).consumer (.leaseLost .dropped)
    | _ => t
  ((t.leaveChain i).dropProducerMark i p).release i

/-- Orphaning under KEEP (R108). -/
def State.orphanJob (s : State) (i : SlotId) : State :=
  (s.endCount i).writeJob i fun j => { j with report := false, producer := none }

/-- Orphan handling of one job of the departing port `p` (R106 to R108). -/
def orphanSlot (p : Port) (o : OrphanPolicy) (acc : State × DepCounts) (i : SlotId) : State × DepCounts :=
  let s := acc.1
  let n := acc.2
  if !((s.slot i).state.tested && (s.job i).producer == some p) then acc
  else if s.testFails i then (s.quarantine i, n)
  else if (s.slot i).state = .done then
    ((s.dropProducerMark i p).release i, { n with released := n.released + 1 })
  else match o with
    | .drop => (s.discard i p, { n with discarded := n.discarded + 1 })
    | .keep => (s.orphanJob i, { n with orphaned := n.orphaned + 1 })

/-- Orphan handling of one chain entry (R109). -/
def orphanChain (p : Port) (o : OrphanPolicy) (acc : State × DepCounts) (e : ChainId) : State × DepCounts :=
  let s := acc.1
  let n := acc.2
  if (s.chain e).state != .free && (s.chain e).owner == some p then
    (match (s.chain e).state, o with
      | .isOpen, .keep => s.modChain e fun c => { c with owner := none }
      | _, _ => s.modChain e fun _ => ChainEntry.cleared,
     { n with chains := n.chains + 1 })
  else acc

/-- The departing port is cleared from a QUARANTINED slot (R16, R109). -/
def clearQuarantined (p : Port) (s : State) (i : SlotId) : State :=
  if (s.slot i).state = .quarantined then
    s.modSlot i fun sl =>
      { sl with job := { sl.job with
          producer := if sl.job.producer = some p then none else sl.job.producer
          lostHolder := if sl.job.lostHolder = some p then none else sl.job.lostHolder } }
  else s

/-- Orphan handling for port `p` with orphan choice `o`, with the counts of R156. -/
def State.orphanHandling (s : State) (p : Port) (o : OrphanPolicy) (n : DepCounts) : State × DepCounts :=
  let r := allChains.foldl (orphanChain p o) (allSlots.foldl (orphanSlot p o) (s, n))
  (allSlots.foldl (clearQuarantined p) r.1, r.2)

/-! ### The end of a session -/

/-- The record of a port outside a session (R144). -/
def PortRec.endSession (r : PortRec) : PortRec :=
  { r with departure := none, roles := Roles.absent, credits := 0, mask := 0, floor := 0 }

/-- The drop of the manager claim (R160). -/
def State.dropClaim (s : State) : State :=
  let t := { s with manager := none }
  let t := if s.hold then { t with hold := false }.notifyJoined .holdOff else t
  t.notifyJoined (.managerChanged none)

/-- What ends a drain (R153). -/
def State.drainOver (s : State) (p : Port) : Bool :=
  (s.port p).state == .leaving && !s.departing p && (s.port p).workingSet.isEmpty && (s.produced p).isEmpty
    && (s.port p).scan.isNone

/-- The end of a drain (R153). -/
def State.endDrain (s : State) (p : Port) : State :=
  let t := (s.orphanHandling p s.orphanPolicy DepCounts.zero).1
  let t := (t.modPort p fun r => { r with missed := 0, stalled := false }).freeWatches p
  (t.modPort p fun r => { r.endSession with cursor := 0, state := .idle }).notifyPort p .left

/-- The start of a forced departure (R154 steps 1 and 2). -/
def State.beginDeparture (s : State) (p : Port) (cause : DepCause) (o : OrphanPolicy) (answer : Option Port) :
    State :=
  (if s.isManager p then s.dropClaim else s).modPort p fun r =>
    { r with
      state := .leaving
      departure := some ⟨.withdraw, cause, o, cause == .portReset, answer, DepCounts.zero⟩ }

/-! ### The close of an event -/

/-- An OPEN entry with an empty list is freed, and one keyed to port none whether OPEN or BROKEN (R35). -/
def closeChain (s : State) (e : ChainId) : State :=
  let c := s.chain e
  if c.list.isEmpty && (c.state == .isOpen || c.state == .broken && c.owner.isNone) then
    s.modChain e fun _ => ChainEntry.cleared
  else s

/-- A RETIRING slot without marks enters FREE at the tail of the free list, with the next generation (R9,
R12). -/
def closeSlot (s : State) (i : SlotId) : State :=
  if (s.slot i).state = .retiring ∧ (s.slot i).marked = false then
    { s.modSlot i fun sl => Slot.empty (sl.gen + 1) with freeList := s.freeList ++ [i] }
  else s

/-- A drain that can end does (R153). -/
def closeDrain (s : State) (p : Port) : State := if s.drainOver p then s.endDrain p else s

/-- RETIRING slots without marks enter FREE in ascending slot order (R9, R12). -/
def State.closeSlots (s : State) : State := allSlots.foldl closeSlot s

/-- The close of an event (R99): chain entries, slots in ascending order, drains. -/
def State.close (s : State) : State :=
  allPorts.foldl closeDrain (allChains.foldl closeChain s).closeSlots

/-- The close of an event that ends a job only when one of its reads has quarantined a record. -/
def State.closeIf (s : State) (b : Bool) : State := if b then s.close else s

/-- A taken command's event closes before its response is made (R99). -/
def closing (t : Taken) : Taken := (t.1.close, t.2)

/-- The handle step of a command that acts on a job, the read of its record, and the quarantine check (R3,
R14, R16), then the command's own steps. -/
def onJob (h : Handle) (s : State) (k : Taken) : Taken :=
  if !s.handleOk h then refuse .stale s
  else if s.testFails h.slot then closing (refuse .jobState (s.quarantine h.slot))
  else if (s.slot h.slot).state = .quarantined then refuse .jobState s
  else k

end Sys2Proof.Machine
end

