-- ==== Sys2Proof/Machine/Link.lean ====
section
/-! DEFINITION. The Link Interface's handling of a frame (R190 to R193) and of a response read (R194). -/

namespace Sys2Proof.Machine

/-- What a meaning answers: this part never stops. -/
abbrev Next := Host.Outcome State Fault Refusal

def State.modLink (s : State) (p : Port) (f : Link → Link) : State :=
  s.modPort p fun r => { r with link := f r.link }

/-! ### Response reads (R194) -/

/-- The flags byte of a response read, formed when the read reaches it: events pending, overrun, owed notices
present (R194). -/
def State.flagsByte (s : State) (p : Port) : Byte :=
  (if (s.port p).queue.isEmpty then 0 else 1) ||| (if (s.port p).link.overrun then 2 else 0)
    ||| (if s.owed p then 4 else 0)

/-- A response read as the state of the port's link fixes it when the read begins (R194's table). -/
def State.opening (s : State) (p : Port) : Reading :=
  let l := (s.port p).link
  if l.inFlight then ⟨false, l.lastSeq.getD 0, .ok, [], none, 0⟩
  else match l.buffer with
    | some r => ⟨true, r.seq, r.status, r.data, none, 0⟩
    | none => ⟨true, 0, .wrongState, [], none, 0⟩

/-- The response frame of a read, with its marker READY or NOT_READY (R194). -/
def Reading.frame (r : Reading) : List Byte :=
  responseBytes (if r.ready then 0xA5 else 0x96) r.seq r.status (r.flags.getD 0) r.data

/-- The frame of a read that begins and ends in this state (R194). -/
def State.responseFrame (s : State) (p : Port) : List Byte :=
  { s.opening p with flags := some (s.flagsByte p) }.frame

/-- What the part drives while the host clocks the kind byte and `n` bytes after it: 0xFF, the frame, and
0xFF after its last byte (R189). -/
def clockedOut (frame : List Byte) (n : Nat) : List Byte :=
  0xFF :: (frame.take n ++ List.replicate (n - frame.length) 0xFF)

/-- The host clocks `n` bytes more. The flags byte, the frame's fourth, is formed as it stands when the read
reaches it (R194). -/
def Reading.clock (r : Reading) (n : Nat) (flags : Byte) : Reading :=
  { r with
    clocked := r.clocked + n
    flags := if 4 ≤ r.clocked + n then some (r.flags.getD flags) else r.flags }

/-- A READY read whose flags byte was shifted out with the overrun bit set (R194). -/
def Reading.reportsOverrun (r : Reading) : Bool := r.ready && (r.flags.getD 0).getLsbD 1

/-- A response read begins: the kind byte is shifted in (R189, R194). -/
def State.beginRead (s : State) (p : Port) : State :=
  s.modPort p fun r => { r with pdo := [0xFF], reading := some (s.opening p) }

/-- Bytes of the response read in progress, if there is one, are shifted out (R194). -/
def State.clockRead (s : State) (p : Port) (n : Nat) : State :=
  match (s.port p).reading with
  | some rd =>
    let rd' := rd.clock n (s.flagsByte p)
    s.modPort p fun r => { r with pdo := clockedOut rd'.frame rd'.clocked, reading := some rd' }
  | none => s

/-- The response read in progress, if there is one, ends: a reported overrun is cleared (R194). -/
def State.endRead (s : State) (p : Port) : State :=
  match (s.port p).reading with
  | some rd =>
    s.modPort p fun r =>
      { r with reading := none, link := { r.link with overrun := r.link.overrun && !rd.reportsOverrun } }
  | none => s

/-- A whole response read, in which the host clocks `n` bytes after the kind byte and no other event is taken. -/
def State.readResponse (s : State) (p : Port) (n : Nat) : State := ((s.beginRead p).clockRead p n).endRead p

/-! ### The end of a transaction (R189, R200) -/

/-- A transaction on port `p` ends with PCS_n rising. One that an assertion of PRST_n abandoned, and one under
RESET_N, have no effect (R189, R200). A transaction on a port with a response read in progress comes after that
read's end, because PCS_n has risen between the two (log entry 14). -/
def State.endTransaction (s : State) (p : Port) (effect : State → State) : State :=
  if (s.port p).abandoned then s.modPort p fun r => { r with abandoned := false }
  else if s.inReset then s
  else effect (s.endRead p)

/-- The bytes the part drove on PDO during the transaction that ends (R189; log entry 14). -/
def State.drivePdo (s : State) (p : Port) (out : List Byte) : State := s.modPort p fun r => { r with pdo := out }

/-- A frame that ends while a command is in flight: discarded, and the overrun flag is set (R193). -/
def State.overrunFrame (s : State) (p : Port) : State := s.modLink p fun l => { l with overrun := true }

/-- A bad frame whose sequence field reads `q` (R190). -/
def State.badFrame (s : State) (p : Port) (q : Seq) : State :=
  if (s.port p).link.inFlight then s.overrunFrame p
  else s.modLink p fun l => { l with buffer := some ⟨q, .badFrame, []⟩ }

/-- A new command is taken: its sequence becomes the last taken one, it is in flight, and the port's
missed-offer count and STALLED flag are cleared (R192, R65). -/
def State.takeCommand (s : State) (p : Port) (q : Seq) : State :=
  s.modPort p fun r =>
    { r with
      link := { r.link with lastSeq := some q, cached := none, inFlight := true }
      missed := 0
      stalled := false }

/-- A taken command's result: the response when it is ready, else the command stays in flight (R192, R193). -/
def finishTaken (p : Port) (t : Taken) : State :=
  match t.2 with
  | some r => t.1.answer p r
  | none => t.1

/-- A good frame with sequence `q` on port `p`; `body` is the command it carries (R192, R193). -/
def State.goodFrame (s : State) (p : Port) (q : Seq) (body : State → Taken) : State :=
  if (s.port p).link.inFlight then s.overrunFrame p
  else if (s.port p).state = .down then s.modLink p fun l => { l with buffer := some ⟨q, .wrongState, []⟩ }
  else if (s.port p).link.lastSeq = some q then s.modLink p fun l => { l with buffer := l.cached }
  else finishTaken p (body (s.takeCommand p q))

/-- A command frame with sequence `q` and parameters `ps` ends on port `p` (R189, R190, R192). A frame with
more than 64 parameter bytes fails the frame step. -/
def hostFrame (p : Port) (q : Seq) (ps : List Byte) (body : State → Taken) (s : State) : State :=
  s.endTransaction p fun s =>
    let t := s.drivePdo p (List.replicate (5 + ps.length) 0xFF)
    if ps.length ≤ Config.maxParams then t.goodFrame p q body else t.badFrame p q

/-- What the part has driven when the bytes of a transaction have been shifted in (R189). -/
def State.driven (s : State) (p : Port) (bytes : List Byte) : List Byte :=
  match bytes with
  | [] => []
  | kind :: rest =>
    if kind = kindResponse then clockedOut (s.responseFrame p) rest.length else List.replicate bytes.length 0xFF

/-- An assertion of PRST_n during a transaction: the transaction is abandoned, so that its end finds it so, and a
response read in progress ends (R189). Of a command transaction the bytes `cut` have been shifted in; `none`, and
no response read in progress, where PCS_n is deasserted. -/
def State.abandon (s : State) (p : Port) (cut : Option (List Byte)) : State :=
  match (s.port p).reading, cut with
  | some _, _ => s.modPort p fun r => { r with abandoned := true, reading := none }
  | none, some bytes =>
    s.modPort p fun r =>
      { r with abandoned := true, pdo := if s.inReset || r.abandoned then r.pdo else s.driven p bytes }
  | none, none => s

/-! ### RESPONSE_READ -/

/-- A response read begins on port `p`; a transaction before it has ended. Under RESET_N it has no effect (R189). -/
def State.openRead (s : State) (p : Port) : State :=
  let t := s.modPort p fun r => { r with abandoned := false }
  if s.inReset then t else (t.endRead p).beginRead p

/-- RESPONSE_READ (R194). -/
def execResponseRead (p : Port) (part : ReadPart) (s : State) : Next :=
  .next
    (match part with
    | .whole n => s.endTransaction p fun t => t.readResponse p n
    | .begins => s.openRead p
    | .clocks n => if s.inReset || (s.port p).abandoned then s else s.clockRead p n
    | .ends => s.endTransaction p id)

end Sys2Proof.Machine
end

