-- ==== Sys2Proof/Machine/Leases.lean ====
section
/-! DEFINITION. Commands on a held job and the end of a lease (chapter 4): RENEW, RETURN, COMPLETE and
LEASE_EXPIRY. -/

namespace Sys2Proof.Machine

/-- The outcome of the holder test (R76's table); none when the port holds the job. -/
def State.holderTest (s : State) (i : SlotId) (p : Port) : Option Status :=
  let st := (s.slot i).state
  let j := s.job i
  if st = .quarantined then some .jobState
  else if st = .active ∧ j.consumer = some p then none
  else if j.reclaimedFrom = some p ∧ (st = .queued ∨ st = .offered) then some .leaseLost
  else if st = .offered ∧ j.consumer = some p then some .jobState
  else some .notOwner

/-- The checks that RENEW, RETURN and COMPLETE share (R75, R76), then the command's own steps. -/
def heldCommand {α : Type} (p : Port) (params : Option α) (handle : α → Handle) (s : State) (k : α → Taken) :
    Taken :=
  if !s.admits p inSession then refuse .wrongState s
  else if !(s.port p).roles.consumer then refuse .notPermitted s
  else match params with
    | none => refuse .badParam s
    | some a =>
      onJob (handle a) s
        (match s.holderTest (handle a).slot p with
        | some st => refuse st s
        | none => k a)

/-- RENEW after the frame step (R77). -/
def renewBody (p : Port) (ps : List Byte) (s : State) : Taken :=
  heldCommand p (parseRenew ps) Prod.fst s fun a =>
    let i := a.1.slot
    let n := if a.2 = 0 then (s.job i).leaseLimit else a.2
    let t := s.writeJob i fun j => { j with deadline := some (s.after n) }
    accepted (handleBytes a.1 ++ num2 (t.ticksTo (s.after n)) ++ yesNo (s.job i).cancelRequested) t

def execRenew (p : Port) (q : Seq) (ps : List Byte) (s : State) : Next :=
  .next (hostFrame p q ps (renewBody p ps) s)

/-- The holder's owed CANCEL_REQUEST is discarded (R88). -/
def State.dropCancelRequest (s : State) (i : SlotId) (p : Port) : State :=
  if (s.slot i).consumerMarks[p] = some .cancelRequest then s.setConsumerMark i p none else s

/-- RETURN of a job with no cancel request (R78). -/
def State.returnToQueue (s : State) (i : SlotId) (p : Port) (avoid : Bool) : State :=
  ((s.leaveConsumer i).writeJob i fun j =>
    { j with
      attempts := j.attempts - 1
      declined := if avoid then j.declined.set p true else j.declined }).requeue i

/-- RETURN after the frame step (R78, R79). -/
def returnBody (p : Port) (ps : List Byte) (s : State) : Taken :=
  heldCommand p (parseReturn ps) Prod.fst s fun a =>
    let i := a.1.slot
    if (s.job i).cancelRequested then
      closing (accepted ([Config.outcomeCode .finished] ++ handleBytes a.1 ++ [FinishStatus.code .cancelled])
        (((s.leaveConsumer i).dropCancelRequest i p).finishJob i .cancelled))
    else
      closing (accepted ([Config.outcomeCode .requeued] ++ handleBytes a.1 ++ num1 ((s.job i).attempts - 1))
        ((s.dropCancelRequest i p).returnToQueue i p a.2))

def execReturn (p : Port) (q : Seq) (ps : List Byte) (s : State) : Next :=
  .next (hostFrame p q ps (returnBody p ps) s)

/-- A COMPLETE taken by the holder (R81). -/
def State.completeJob (s : State) (p : Port) (c : CompleteParams) : State :=
  let i := c.handle.slot
  let t := (s.leaveConsumer i).writeJob i fun j => { j with userCode := some c.userCode, result := some c.result }
  (t.dropCancelRequest i p).finishJob i c.outcome

/-- COMPLETE after the frame step (R80, R81). -/
def completeBody (p : Port) (ps : List Byte) (s : State) : Taken :=
  heldCommand p (parseComplete ps) CompleteParams.handle s fun c =>
    if c.outcome = .cancelled ∧ (s.job c.handle.slot).cancelRequested = false then refuse .badParam s
    else closing (accepted (handleBytes c.handle ++ [c.outcome.code]) (s.completeJob p c))

def execComplete (p : Port) (q : Seq) (ps : List Byte) (s : State) : Next :=
  .next (hostFrame p q ps (completeBody p ps) s)

/-! ### Expiry and reclaim -/

/-- The dispositions of a reclaimed job (R83). -/
inductive Disposition where
  | cancelled | expired | requeued
deriving DecidableEq, Repr

/-- The first case of R83 that applies. -/
def State.disposition (s : State) (i : SlotId) : Disposition :=
  if (s.job i).cancelRequested then .cancelled
  else if (s.job i).attempts = (s.job i).attemptLimit then .expired
  else .requeued

/-- The lease is lost: the job leaves the working set of `p`, which reclaimed from then names (R82, R90). -/
def State.takeLease (s : State) (i : SlotId) (p : Port) : State :=
  (s.leaveConsumer i).writeJob i fun j => { j with reclaimedFrom := some p }

def State.dispose (s : State) (i : SlotId) (d : Disposition) : State :=
  match d with
  | .cancelled => s.finishJob i .cancelled
  | .expired => s.finishJob i .expired
  | .requeued => s.requeue i

/-- The counts of R156 by disposition. -/
def DepCounts.countDisposition (n : DepCounts) (d : Disposition) : DepCounts :=
  match d with
  | .cancelled => { n with cancelled := n.cancelled + 1 }
  | .expired => { n with expired := n.expired + 1 }
  | .requeued => { n with requeued := n.requeued + 1 }

/-- A lease expiry of the job in slot `i` held by `p` (R82). -/
def State.expireLease (s : State) (i : SlotId) (p : Port) : State :=
  ((s.takeLease i p).notifyConsumer i p (.leaseLost .expired)).dispose i (s.disposition i)

/-- The lease of the job in slot `i` has a due deadline (R177, R178). -/
def State.leaseDue (s : State) (i : SlotId) : Bool :=
  (s.slot i).state == .active && s.due (s.job i).deadline

/-- LEASE_EXPIRY of the job in slot `i` (R82). It does not take place unless the lease is due (log entry 7). -/
def execLeaseExpiry (i : SlotId) (s : State) : Next :=
  if s.inReset || !s.leaseDue i then .next s
  else if s.testFails i then .next (s.quarantine i).close
  else match (s.job i).consumer with
    | some p => .next (s.expireLease i p).close
    | none => .next s

end Sys2Proof.Machine
end

