-- ==== Sys2Proof/Machine/Sessions.lean ====
section
/-! DEFINITION. The session commands (chapter 8): JOIN, SET_SERVICE, LEAVE, PORT_STATUS, CLAIM_MANAGER,
RELEASE_MANAGER and EVICT. -/

namespace Sys2Proof.Machine

/-! ### Joining -/

/-- The joining port is removed from one live job's declined set; a record that fails its test is
quarantined instead (R149 step 2, R13). -/
def undecline (p : Port) (s : State) (i : SlotId) : State :=
  if (s.slot i).state.live then
    if s.testFails i then s.quarantine i
    else if (s.job i).declined[p] then s.writeJob i fun j => { j with declined := j.declined.set p false }
    else s
  else s

/-- Some live record fails its test. -/
def State.liveFails (s : State) : Bool := allSlots.any fun i => (s.slot i).state.live && s.testFails i

/-- The effects of a taken JOIN (R149). DESIGN CHOICE: the live records are read in ascending slot order, which is the
order of the quarantines, chain breaks and JOB_LOST notices where several fail; R149 and R63 give none (log entry
2). -/
def State.joinPort (s : State) (p : Port) (j : JoinParams) : State :=
  let t := s.modPort p fun r => { r with roles := j.roles, credits := j.credits, mask := j.mask, floor := j.floor }
  ((allSlots.foldl (undecline p) t).modPort p fun r =>
    { r with missed := 0, stalled := false, state := .joined }).closeIf s.liveFails

/-- JOIN after the frame step (R148, R149). The HOLD flag is one byte, 1 for on (log entry 10). -/
def joinBody (p : Port) (ps : List Byte) (s : State) : Taken :=
  if !s.admits p [.idle] then refuse .wrongState s
  else match parseJoin ps with
    | none => refuse .badParam s
    | some j =>
      accepted (rolesByte j.roles ++ num1 j.credits ++ portByte s.manager ++ yesNo s.hold) (s.joinPort p j)

def execJoin (p : Port) (q : Seq) (ps : List Byte) (s : State) : Next := .next (hostFrame p q ps (joinBody p ps) s)

/-- SET_SERVICE after the frame step (R150). -/
def setServiceBody (p : Port) (ps : List Byte) (s : State) : Taken :=
  if !s.admits p inJoined then refuse .wrongState s
  else if !(s.port p).roles.consumer then refuse .notPermitted s
  else match parseService ps with
    | none => refuse .badParam s
    | some (m, f) =>
      accepted ([(s.port p).mask] ++ num1 (s.port p).floor ++ [m] ++ num1 f)
        (s.modPort p fun r => { r with mask := m, floor := f })

def execSetService (p : Port) (q : Seq) (ps : List Byte) (s : State) : Next :=
  .next (hostFrame p q ps (setServiceBody p ps) s)

/-! ### Leaving -/

/-- The withdrawal of one offer of port `p`, with the count so far; `told` when OFFER_WITHDRAWN LEAVING is
passed (R59). -/
def withdrawOffer (p : Port) (told : Bool) (acc : State × Nat) (i : SlotId) : State × Nat :=
  let s := acc.1
  if (s.slot i).state = .offered ∧ (s.job i).consumer = some p then
    if s.testFails i then (s.quarantine i, acc.2)
    else
      let t := (s.leaveConsumer i).requeue i
      (if told then t.notifyConsumer i p (.offerWithdrawn .leaving) else t, acc.2 + 1)
  else acc

/-- The withdrawal of every offer of port `p` in ascending slot order (R59). -/
def State.withdrawOffers (s : State) (p : Port) (told : Bool) : State × Nat :=
  allSlots.foldl (withdrawOffer p told) (s, 0)

/-- A taken LEAVE DRAIN (R152). The response reports the state IDLE when the drain has ended within it. -/
def leaveDrain (p : Port) (s : State) : Taken :=
  let t := (if s.isManager p then s.dropClaim else s).modPort p fun r => { r with state := .leaving }
  let w := t.withdrawOffers p true
  let u := w.1.close
  accepted
    (num1 w.2 ++ num1 (w.1.port p).workingSet.length ++ num2 (w.1.produced p).length
      ++ optByte (if (u.port p).state = .idle then some (PortState.code .idle) else none)) u

/-- LEAVE after the frame step (R151, R152, R156). A LEAVING port is admitted with mode NOW alone (log
entry 13). -/
def leaveBody (p : Port) (ps : List Byte) (s : State) : Taken :=
  if !s.admits p (if ps.head? = some 1 then inSession else inJoined) then refuse .wrongState s
  else match parseLeave ps with
    | none => refuse .badParam s
    | some .drain => leaveDrain p s
    | some (.now o) => (s.beginDeparture p .leaveNow o (some p), none)

def execLeaveDrain (p : Port) (q : Seq) (ps : List Byte) (s : State) : Next :=
  .next (hostFrame p q ps (leaveBody p ps) s)

def execLeaveNow (p : Port) (q : Seq) (ps : List Byte) (s : State) : Next :=
  .next (hostFrame p q ps (leaveBody p ps) s)

/-- EVICT's target, which is not the issuing port (R157). -/
def parseEvict (p : Port) (ps : List Byte) : Option Port :=
  match parseFin 4 ps with
  | some t => if t = p then none else some t
  | none => none

/-- EVICT after the frame step (R157). -/
def evictBody (p : Port) (ps : List Byte) (s : State) : Taken :=
  managerCommand p (parseEvict p ps) s fun t =>
    if !s.admits t inSession then refuse .wrongState s
    else (s.beginDeparture t .evict s.orphanPolicy (some p), none)

def execEvict (p : Port) (q : Seq) (ps : List Byte) (s : State) : Next :=
  .next (hostFrame p q ps (evictBody p ps) s)

/-! ### The manager claim -/

/-- CLAIM_MANAGER after the frame step (R159; log entry 12). -/
def claimManagerBody (p : Port) (ps : List Byte) (s : State) : Taken :=
  if !s.admits p inJoined then refuse .wrongState s
  else match parseEmpty ps with
    | none => refuse .badParam s
    | some () =>
      match s.manager with
      | none => accepted (portByte (some p)) ({ s with manager := some p }.notifyJoined (.managerChanged (some p)))
      | some m => if m = p then accepted (portByte (some p)) s else (s, some ⟨.managerTaken, portByte (some m)⟩)

def execClaimManager (p : Port) (q : Seq) (ps : List Byte) (s : State) : Next :=
  .next (hostFrame p q ps (claimManagerBody p ps) s)

/-- RELEASE_MANAGER after the frame step (R160; log entry 13). -/
def releaseManagerBody (p : Port) (ps : List Byte) (s : State) : Taken :=
  if !s.admits p inJoined then refuse .wrongState s
  else if !s.isManager p then refuse .notManager s
  else match parseEmpty ps with
    | none => refuse .badParam s
    | some () => accepted (yesNo s.hold) s.dropClaim

def execReleaseManager (p : Port) (q : Seq) (ps : List Byte) (s : State) : Next :=
  .next (hostFrame p q ps (releaseManagerBody p ps) s)

/-! ### PORT_STATUS -/

/-- The standing of port `t` (R161's table; log entry 10, which also gives the byte of the departing and STALLED
flags). -/
def State.standing (s : State) (t : Port) : List Byte :=
  let r := s.port t
  [r.state.code] ++ yesNo (s.departing t) ++ rolesByte r.roles ++ num1 r.credits ++ [r.mask] ++ num1 r.floor
    ++ yesNo (s.isManager t) ++ portByte s.manager
    ++ num1 (s.load t) ++ num1 (s.offerSet t).length
    ++ num1 r.workingSet.length ++ r.workingSet.flatMap (fun i => handleBytes (s.handle i))
    ++ num1 r.missed ++ yesNo r.stalled
    ++ num1 r.queue.length ++ yesNo (s.owed t)
    ++ num2 r.quota ++ num2 r.quotaCount
    ++ num1 (s.watchesOf t).length
    ++ yesNo r.scan.isSome ++ num2 r.cursor

/-- The block names a port other than the issuing one (R161; log entry 13). -/
def namesOther (p : Port) (ps : List Byte) : Bool :=
  match ps with
  | b :: _ => b.toNat != p.val
  | [] => false

/-- PORT_STATUS after the frame step (R161). -/
def portStatusBody (p : Port) (ps : List Byte) (s : State) : Taken :=
  if !s.admits p inAny then refuse .wrongState s
  else if namesOther p ps && !s.isManager p then refuse .notManager s
  else match parseFin 4 ps with
    | none => refuse .badParam s
    | some t => accepted (s.standing t) s

def execPortStatus (p : Port) (q : Seq) (ps : List Byte) (s : State) : Next :=
  .next (hostFrame p q ps (portStatusBody p ps) s)

end Sys2Proof.Machine
end

