-- ==== Sys2Proof/Machine/Departures.lean ====
section
/-! DEFINITION. The steps of a forced departure, each one event of the block that owns it (R154 steps 3 to 8,
R155). A step that the departure of the port has not reached does not take place (log entry 7). -/

namespace Sys2Proof.Machine

/-- The departure of port `p` in progress, when `st` is its next step and RESET_N is not asserted. -/
def State.departureAt (s : State) (p : Port) (st : DepStep) : Option Departure :=
  if s.inReset then none
  else match (s.port p).departure with
    | some d => if d.next = st then some d else none
    | none => none

/-- The departure goes on to its next step with the counts so far. -/
def State.advance (s : State) (p : Port) (st : DepStep) (n : DepCounts) : State :=
  s.modPort p fun r => { r with departure := r.departure.map fun d => { d with next := st, counts := n } }

/-- Step 3, the Dispatcher's (R59, R71). -/
def State.stepWithdraw (s : State) (p : Port) (d : Departure) : State :=
  let w := s.withdrawOffers p false
  ((w.1.modPort p fun r => { r with missed := 0, stalled := false }).advance p .reclaim
    { d.counts with withdrawn := w.2 }).close

def execDepartureOfferWithdrawal (p : Port) (s : State) : Next :=
  match s.departureAt p .withdraw with
  | some d => .next (s.stepWithdraw p d)
  | none => .next s

/-- The reclaim of one job of port `p`, with the counts so far (R90). -/
def reclaimJob (p : Port) (acc : State × DepCounts) (i : SlotId) : State × DepCounts :=
  let s := acc.1
  if (s.slot i).state = .active ∧ (s.job i).consumer = some p then
    if s.testFails i then (s.quarantine i, acc.2)
    else
      let c := s.disposition i
      ((s.takeLease i p).dispose i c, acc.2.countDisposition c)
  else acc

/-- Step 4, the Lease Unit's (R90): the working set from its head. -/
def State.stepReclaim (s : State) (p : Port) (d : Departure) : State :=
  let r := (s.port p).workingSet.foldl (reclaimJob p) (s, d.counts)
  (r.1.advance p .orphans r.2).close

def execDepartureReclaim (p : Port) (s : State) : Next :=
  match s.departureAt p .reclaim with
  | some d => .next (s.stepReclaim p d)
  | none => .next s

/-- Step 5, the Job Store's (R106 to R109). -/
def State.stepOrphans (s : State) (p : Port) (d : Departure) : State :=
  let r := s.orphanHandling p d.orphan d.counts
  (r.1.advance p .watches r.2).close

def execOrphanHandling (p : Port) (s : State) : Next :=
  match s.departureAt p .orphans with
  | some d => .next (s.stepOrphans p d)
  | none => .next s

/-- Step 6, the Flag Unit's (R127). -/
def State.stepWatches (s : State) (p : Port) (d : Departure) : State :=
  (s.freeWatches p).advance p .notices { d.counts with watches := (s.watchesOf p).length }

def execDepartureWatchRelease (p : Port) (s : State) : Next :=
  match s.departureAt p .watches with
  | some d => .next (s.stepWatches p d)
  | none => .next s

/-- The marks owed to port `p` in one slot are discarded (R141 step 2). -/
def discardSlotMarks (p : Port) (s : State) (i : SlotId) : State :=
  let t := s.dropProducerMark i p
  if (t.slot i).owesConsumer p then t.setConsumerMark i p none else t

/-- The CHAIN_BROKEN mark owed to port `p` in one chain entry is discarded (R141 step 2). -/
def discardChainMark (p : Port) (s : State) (e : ChainId) : State :=
  if (s.chain e).owes p then s.modChain e fun c => { c with owed := none } else s

/-- The port's queue is emptied, every mark owed to it is discarded, and RETIRING slots left without a mark
enter FREE (R141 steps 1 to 3). -/
def State.clearNotices (s : State) (p : Port) : State :=
  let t := s.modPort p fun r => { r with queue := [], notices := NoticeSet.clear }
  (allChains.foldl (discardChainMark p) (allSlots.foldl (discardSlotMarks p) t)).closeSlots

/-- The port notice that ends a departure (R141 step 4). -/
def DepCause.notice (c : DepCause) : Option PortNotice :=
  match c with
  | .leaveNow => some .left
  | .evict => some .evicted
  | .portReset => none

/-- Step 7, the Notice Unit's (R141). -/
def State.stepNotices (s : State) (p : Port) (d : Departure) : State :=
  let t := (s.clearNotices p).advance p .search d.counts
  match d.cause.notice with
  | some n => t.enqueue p (.portNotice n)
  | none => t

def execDepartureNoticeClear (p : Port) (s : State) : Next :=
  match s.departureAt p .notices with
  | some d => .next (s.stepNotices p d)
  | none => .next s

/-- The counts that LEAVE NOW's response carries (R156; log entry 10). -/
def DepCounts.bytes (n : DepCounts) : List Byte :=
  num1 n.withdrawn ++ num1 (n.requeued + n.cancelled + n.expired) ++ num1 n.requeued ++ num1 n.cancelled
    ++ num1 n.expired ++ num2 n.discarded ++ num2 n.orphaned ++ num2 n.released ++ num1 n.chains
    ++ num1 n.watches

/-- The response data of the command that caused the departure of port `p` (R156, R157). -/
def Departure.data (d : Departure) (p : Port) : List Byte :=
  match d.cause with
  | .evict => num1 p.val ++ d.counts.bytes
  | _ => d.counts.bytes

/-- The Search Unit abandons the port's scan; its command, if still in flight, ends WRONG_STATE (R173,
R195). -/
def State.abandonScan (s : State) (p : Port) : State :=
  (if (s.port p).scan.isSome then s.answerInFlight p ⟨.wrongState, []⟩ else s).modPort p fun r =>
    { r with scan := none, cursor := 0 }

/-- The end of a forced departure (R155). DESIGN CHOICE: where PRST_n was asserted during the departure and a CLEAR_ALL
was taken after its Notice Unit step, R155 step 1 empties the queue and R143 says that it holds CLEARED; the model
follows R155, so the queue is empty (log entry 22). -/
def State.endDeparture (s : State) (p : Port) (d : Departure) : State :=
  let t := s.modPort p fun r =>
    { r.endSession with
      queue := if d.prstSeen then [] else r.queue
      state := if r.prst then .down else .idle }
  match d.answer with
  | some a => t.answer a ⟨.ok, d.data p⟩
  | none => t

/-- Step 8, the Search Unit's, and the end of the departure (R173, R155). -/
def State.stepSearch (s : State) (p : Port) (d : Departure) : State := (s.abandonScan p).endDeparture p d

def execDepartureScanAbandon (p : Port) (s : State) : Next :=
  match s.departureAt p .search with
  | some d => .next (s.stepSearch p d)
  | none => .next s

end Sys2Proof.Machine
end

