-- ==== Sys2Proof/Machine/Resets.lean ====
section
/-! DEFINITION. The reset pins (R187, R145, R146). -/

namespace Sys2Proof.Machine

/-- RESET_N_ASSERT (R187): every block at its power-on values; the pins PRST_n keep their levels, and a
transaction that PRST_n abandoned, and a response read in progress, have still to end and will have no effect
(R189; log entry 14). -/
def State.powerOn (s : State) : State :=
  { State.reset with
    ports := mapV (fun r => { PortRec.powerOn with prst := r.prst, abandoned := r.abandoned || r.reading.isSome }) s.ports
    pending := s.pending }

def execResetNAssert (s : State) : Next := .next s.powerOn

/-- A port leaves DOWN for IDLE, with its link cleared (R145). -/
def PortRec.enterIdle (r : PortRec) : PortRec :=
  if r.state = .down ∧ r.prst = false then { r with state := .idle, link := Link.cleared } else r

/-- RESET_N_RELEASE (R187, R145): each port whose PRST_n is deasserted enters IDLE. -/
def execResetNRelease (s : State) : Next :=
  .next (if s.inReset then { s with inReset := false, ports := mapV PortRec.enterIdle s.ports } else s)

/-- A departure whose response would go to port `p` makes none any more (R155 step 4, R157). -/
def Departure.voidAnswer (d : Departure) (p : Port) : Departure :=
  if d.answer = some p then { d with answer := none } else d

/-- No departure in progress answers port `p` (R155 step 4). -/
def State.voidAnswers (s : State) (p : Port) : State :=
  { s with ports := mapV (fun r => { r with departure := r.departure.map fun d => d.voidAnswer p }) s.ports }

/-- The assertion of PRST_n by the port's state (R146's table). -/
def State.portReset (s : State) (p : Port) : State :=
  match (s.port p).departure with
  | some _ => s.modPort p fun r => { r with departure := r.departure.map fun d => { d with prstSeen := true } }
  | none =>
    match (s.port p).state with
    | .down => s
    | .idle => (s.clearNotices p).modPort p fun r => { r with cursor := 0, state := .down }
    | .joined => s.beginDeparture p .portReset s.orphanPolicy none
    | .leaving => s.beginDeparture p .portReset s.orphanPolicy none

/-- The effect of an assertion of PRST_n on port `p`, deasserted until then (R145, R146). A transaction in progress
on the port, of which the bytes `cut` have been shifted in, is abandoned (R189, R200). -/
def State.assertPrst (s : State) (p : Port) (cut : Option (List Byte)) : State :=
  let t := (s.abandon p cut).modPort p fun r => { r with prst := true }
  if s.inReset then t else ((t.modLink p fun _ => Link.cleared).voidAnswers p).portReset p

/-- PRST_N_ASSERT. Holding PRST_n asserted makes no further event (R145). -/
def execPrstNAssert (a : PrstAssertion) (s : State) : Next :=
  .next (if (s.port a.port).prst then s else s.assertPrst a.port a.cut)

/-- PRST_N_DEASSERT (R145): a DOWN port enters IDLE. On a pin already deasserted it is no event. -/
def execPrstNDeassert (p : Port) (s : State) : Next :=
  .next
    (if (s.port p).prst then
      s.modPort p fun r =>
        let u := { r with prst := false }
        if s.inReset then u else u.enterIdle
    else s)

end Sys2Proof.Machine
end

