-- ==== Sys2Proof/Machine/Control.lean ====
section
/-! DEFINITION. Device control and timing (chapter 10): HOLD, RESUME, PAUSE_CLASS, UNPAUSE_CLASS,
SET_CLASS_POLICY, SET_TICK_DIVISOR, SET_QUOTA, SET_ORPHAN_POLICY, CLEAR_ALL and TICK. -/

namespace Sys2Proof.Machine

/-! ### HOLD and class pause -/

/-- HOLD after the frame step (R182). Changed is one byte, 1 for changed (log entry 10). -/
def holdBody (p : Port) (ps : List Byte) (s : State) : Taken :=
  managerCommand p (parseEmpty ps) s fun () =>
    accepted (yesNo (!s.hold)) (if s.hold then s else { s with hold := true }.notifyJoined .holdOn)

def execHold (p : Port) (q : Seq) (ps : List Byte) (s : State) : Next := .next (hostFrame p q ps (holdBody p ps) s)

/-- RESUME after the frame step (R182). Changed is one byte, 1 for changed (log entry 10). -/
def resumeBody (p : Port) (ps : List Byte) (s : State) : Taken :=
  managerCommand p (parseEmpty ps) s fun () =>
    accepted (yesNo s.hold) (if s.hold then { s with hold := false }.notifyJoined .holdOff else s)

def execResume (p : Port) (q : Seq) (ps : List Byte) (s : State) : Next :=
  .next (hostFrame p q ps (resumeBody p ps) s)

/-- Set a class's paused flag, answering the class and its flag before (R183). -/
def State.setPaused (s : State) (c : ClassId) (b : Bool) : State := { s with paused := s.paused.set c b }

def pausedData (s : State) (c : ClassId) : List Byte := num1 c.val ++ yesNo (s.isPaused c)

/-- PAUSE_CLASS after the frame step (R183). -/
def pauseClassBody (p : Port) (ps : List Byte) (s : State) : Taken :=
  managerCommand p (parseFin 8 ps) s fun c => accepted (pausedData s c) (s.setPaused c true)

def execPauseClass (p : Port) (q : Seq) (ps : List Byte) (s : State) : Next :=
  .next (hostFrame p q ps (pauseClassBody p ps) s)

/-- UNPAUSE_CLASS after the frame step (R183). -/
def unpauseClassBody (p : Port) (ps : List Byte) (s : State) : Taken :=
  managerCommand p (parseFin 8 ps) s fun c => accepted (pausedData s c) (s.setPaused c false)

def execUnpauseClass (p : Port) (q : Seq) (ps : List Byte) (s : State) : Next :=
  .next (hostFrame p q ps (unpauseClassBody p ps) s)

/-! ### Policies -/

/-- A row's five values in R180's order (log entry 10). -/
def ClassPolicy.bytes (r : ClassPolicy) : List Byte :=
  num1 r.offerWindow ++ num2 r.defaultLease ++ num1 r.defaultAttempts ++ num2 r.ageStep ++ num1 r.ageCeiling

/-- The due promotions of the class's QUEUED jobs are withdrawn: a new age step has moved their instants (R30,
R177; log entry 4). -/
def State.withdrawPromotions (s : State) (c : ClassId) : State :=
  { s with slots := mapV (fun sl =>
      if sl.state = .queued ∧ sl.job.cls = c then { sl with promoDue := 0 } else sl) s.slots }

/-- A taken SET_CLASS_POLICY (R181). -/
def State.setPolicy (s : State) (c : ClassId) (r : ClassPolicy) : State :=
  let t := { s with policy := s.policy.set c r }
  if (s.policyOf c).ageStep = r.ageStep then t else t.withdrawPromotions c

/-- SET_CLASS_POLICY after the frame step (R181). -/
def setClassPolicyBody (p : Port) (ps : List Byte) (s : State) : Taken :=
  managerCommand p (parsePolicy ps) s fun a =>
    if !s.hold then refuse .holdRequired s
    else accepted (num1 a.1.val ++ (s.policyOf a.1).bytes ++ a.2.bytes) (s.setPolicy a.1 a.2)

def execSetClassPolicy (p : Port) (q : Seq) (ps : List Byte) (s : State) : Next :=
  .next (hostFrame p q ps (setClassPolicyBody p ps) s)

/-- SET_TICK_DIVISOR after the frame step (R179). -/
def setTickDivisorBody (p : Port) (ps : List Byte) (s : State) : Taken :=
  managerCommand p (parseDivisor ps) s fun d =>
    accepted (num2 s.divisor ++ num2 d) { s with divisor := d, prescaler := 0 }

def execSetTickDivisor (p : Port) (q : Seq) (ps : List Byte) (s : State) : Next :=
  .next (hostFrame p q ps (setTickDivisorBody p ps) s)

/-- SET_QUOTA after the frame step (R184). -/
def setQuotaBody (p : Port) (ps : List Byte) (s : State) : Taken :=
  managerCommand p (parseQuota ps) s fun a =>
    accepted (num1 a.1.val ++ num2 (s.port a.1).quota ++ num2 a.2 ++ num2 (s.port a.1).quotaCount)
      (s.modPort a.1 fun r => { r with quota := a.2 })

def execSetQuota (p : Port) (q : Seq) (ps : List Byte) (s : State) : Next :=
  .next (hostFrame p q ps (setQuotaBody p ps) s)

/-- SET_ORPHAN_POLICY after the frame step (R185). -/
def setOrphanPolicyBody (p : Port) (ps : List Byte) (s : State) : Taken :=
  managerCommand p (parseOrphan ps) s fun o =>
    accepted [s.orphanPolicy.code, o.code] { s with orphanPolicy := o }

def execSetOrphanPolicy (p : Port) (q : Seq) (ps : List Byte) (s : State) : Next :=
  .next (hostFrame p q ps (setOrphanPolicyBody p ps) s)

/-! ### CLEAR_ALL -/

/-- The response data of a scan stopped by the clear (R172). -/
def Scan.interruptedData (sc : Scan) (cursor : Nat) : List Byte :=
  match sc.kind with
  | .find _ hits => num1 hits.length ++ hits.flatMap (fun h => handleBytes h.1 ++ [h.2.code]) ++ num2 cursor
  | .cancelMatch _ n => num2 n

/-- A scan in flight stops with INTERRUPTED (R172). -/
def interruptScan (s : State) (p : Port) : State :=
  match (s.port p).scan with
  | some sc =>
    (s.modPort p fun r => { r with scan := none }).answerInFlight p
      ⟨.interrupted, sc.interruptedData (s.port p).cursor⟩
  | none => s

/-- The port's drain is ended by the clear (R162). -/
def PortRec.draining (r : PortRec) : Bool := r.state == .leaving && r.departure.isNone

/-- The port receives CLEARED (R143 step 3). -/
def PortRec.inSession (r : PortRec) : Bool := r.state == .joined || r.state == .leaving

/-- A slot after the clear (R19). -/
def Slot.clear (sl : Slot) : Slot := Slot.empty (if sl.state = .free then sl.gen else sl.gen + 1)

/-- A watch entry after the clear: a PENDING one loses its hit (R128); one of a port whose drain the clear ends
is freed. -/
def State.clearWatch (s : State) (k : WatchId) : State :=
  if (s.watch k).state = .pending then s.settleWatch k else s

/-- A port's record after the clear (R143, R162, R92, R19; log entry 18). -/
def PortRec.clear (r : PortRec) : PortRec :=
  let q := { r with
    queue := if r.inSession then [.portNotice .cleared] else []
    notices := NoticeSet.clear
    workingSet := []
    quotaCount := 0 }
  if r.draining then { q.endSession with state := .idle, latch := none, cursor := 0, missed := 0, stalled := false }
  else q

/-- The watch entries of ports whose drain the clear ends are freed (R128, R162). -/
def freeDrained (s : State) (p : Port) : State := if (s.port p).draining then s.freeWatches p else s

/-- CLEAR_ALL (R186): every block's clear rule within one event. -/
def State.clearAll (s : State) : State :=
  let t := allWatches.foldl State.clearWatch (allPorts.foldl freeDrained (allPorts.foldl interruptScan s))
  { t with
    slots := mapV Slot.clear t.slots
    freeList := allSlots
    classQueues := Vector.replicate 8 []
    seqCounter := 0
    chains := Vector.replicate 64 ChainEntry.cleared
    ports := mapV PortRec.clear t.ports }

/-- CLEAR_ALL after the frame step (R186). -/
def clearAllBody (p : Port) (ps : List Byte) (s : State) : Taken :=
  managerCommand p (parseEmpty ps) s fun () =>
    accepted
      (num2 (256 - s.countState .free) ++ num1 (allPorts.countP fun t => (s.port t).scan.isSome)
        ++ num1 (allPorts.countP fun t => (s.port t).inSession)) s.clearAll

def execClearAll (p : Port) (q : Seq) (ps : List Byte) (s : State) : Next :=
  .next (hostFrame p q ps (clearAllBody p ps) s)

/-! ### TICK -/

/-- A promotion instant of the slot's job falls at time `now` under its class's row (R29, R30). -/
def Slot.promotionInstant (sl : Slot) (now : Word) (row : ClassPolicy) : Bool :=
  match sl.state, sl.job.queuedSince with
  | .queued, some since =>
    row.ageStep != 0 && (now - since).toNat != 0 && (now - since).toNat % row.ageStep == 0
      && sl.job.urgency < row.ageCeiling
  | _, _ => false

/-- The time base advances by one, and the instants it reaches become due (R177). Offer and lease deadlines are
due by their distance (R178). -/
def State.tick (s : State) : State :=
  let now := s.timeBase + 1
  { s with
    timeBase := now
    prescaler := 0
    slots := mapV (fun sl =>
      if sl.promotionInstant now (s.policyOf sl.job.cls) then { sl with promoDue := sl.promoDue + 1 } else sl)
      s.slots }

/-- One REFCLK period (R177). -/
def State.refclk (s : State) : State :=
  if s.inReset then s
  else if s.divisor ≤ s.prescaler + 1 then s.tick
  else { s with prescaler := s.prescaler + 1 }

/-- TICK: the prescaler count reaches the tick divisor (R177). RESET_N asserted, no tick is counted (R187). -/
def execTick (s : State) : Next := .next (if s.inReset then s else s.tick)

end Sys2Proof.Machine
end

