-- ==== Sys2Proof/Machine/FlagCommands.lean ====
section
/-! DEFINITION. The host commands of the Flag Unit (chapter 6): FLAG_READ, FLAG_COMBINE, WATCH_SET and
WATCH_CLEAR. -/

namespace Sys2Proof.Machine

/-- Load the port's latch (R113). -/
def State.loadLatch (s : State) (p : Port) (f : FlagId) (v : Word) : State :=
  s.modPort p fun r => { r with latch := some (f, v) }

/-- FLAG_READ after the frame step (R114, R115). -/
def flagReadBody (p : Port) (ps : List Byte) (s : State) : Taken :=
  if !s.admits p inSession then refuse .wrongState s
  else match parseFin 64 ps with
    | none => refuse .badParam s
    | some f => accepted (num1 f.val ++ wordBytes (s.flagWord f)) (s.loadLatch p f (s.flagWord f))

def execFlagRead (p : Port) (q : Seq) (ps : List Byte) (s : State) : Next :=
  .next (hostFrame p q ps (flagReadBody p ps) s)

/-- The latch check passes: a LATCH source needs a latch, LATCH_EQUAL a latch that names the word (R117). -/
def latchFits (c : CombineParams) (latch : Option (FlagId × Word)) : Bool :=
  match latch with
  | some (f, _) => !c.latchEqual || f == c.flag
  | none => !c.fromLatch && !c.latchEqual

/-- The operand of a FLAG_COMBINE (R118 step 2). -/
def CombineParams.operandOf (c : CombineParams) (latch : Option (FlagId × Word)) : Word :=
  match latch with
  | some (_, v) => if c.fromLatch then v else c.operand
  | none => c.operand

/-- The combine applies to a word with old value `old` (R118 step 3). -/
def CombineParams.appliesTo (c : CombineParams) (old : Word) (latch : Option (FlagId × Word)) : Bool :=
  !c.latchEqual || match latch with
    | some (_, v) => equalUnder c.care old v
    | none => false

/-- A FLAG_COMBINE taken on port `p` (R118). -/
def State.flagCombine (s : State) (p : Port) (c : CombineParams) : State :=
  let l := (s.port p).latch
  let t := if c.appliesTo (s.flagWord c.flag) l then s.applyCombine c.flag c.fn (c.operandOf l) c.mask else s
  t.loadLatch p c.flag (t.flagWord c.flag)

/-- FLAG_COMBINE after the frame step (R114, R117, R118). -/
def flagCombineBody (p : Port) (ps : List Byte) (s : State) : Taken :=
  if !s.admits p inSession then refuse .wrongState s
  else match parseCombine ps with
    | none => refuse .badParam s
    | some c =>
      if !latchFits c (s.port p).latch then refuse .wrongState s
      else accepted
        (wordBytes (s.flagWord c.flag) ++ yesNo (c.appliesTo (s.flagWord c.flag) (s.port p).latch))
        (s.flagCombine p c)

def execFlagCombine (p : Port) (q : Seq) (ps : List Byte) (s : State) : Next :=
  .next (hostFrame p q ps (flagCombineBody p ps) s)

/-- The lowest-indexed FREE watch entry (R122). -/
def State.freeWatch (s : State) : Option WatchId := allWatches.find? fun k => (s.watch k).state == .free

/-- The entry as a WATCH_SET arms it (R122 steps 2 and 3). -/
def WatchParams.entry (a : WatchParams) (p : Port) : Watch :=
  ⟨.armed, some p, a.flag, a.care, a.pattern, a.mode, false, none⟩

/-- WATCH_SET after the frame step (R114, R122). -/
def watchSetBody (p : Port) (ps : List Byte) (s : State) : Taken :=
  if !s.admits p inJoined then refuse .wrongState s
  else match parseWatch ps with
    | none => refuse .badParam s
    | some a =>
      match s.freeWatch with
      | none => refuse .watchFull s
      | some k =>
        let v := s.flagWord a.flag
        accepted (num1 k.val ++ yesNo ((a.entry p).hits v)) ((s.modWatch k fun _ => a.entry p).evalWatch k v)

def execWatchSet (p : Port) (q : Seq) (ps : List Byte) (s : State) : Next :=
  .next (hostFrame p q ps (watchSetBody p ps) s)

/-- WATCH_CLEAR after the frame step (R114, R126). -/
def watchClearBody (p : Port) (ps : List Byte) (s : State) : Taken :=
  if !s.admits p inSession then refuse .wrongState s
  else match parseFin 16 ps with
    | none => refuse .badParam s
    | some k =>
      if (s.watch k).state = .free ∨ (s.watch k).owner ≠ some p then refuse .notOwner s
      else accepted (num1 k.val ++ yesNo ((s.watch k).state == .pending)) (s.modWatch k fun _ => Watch.cleared)

def execWatchClear (p : Port) (q : Seq) (ps : List Byte) (s : State) : Next :=
  .next (hostFrame p q ps (watchClearBody p ps) s)

end Sys2Proof.Machine
end

