-- ==== Sys2Proof/Machine/Jobs.lean ====
section
/-! DEFINITION. Putting jobs in and taking them out: SUBMIT, CANCEL, CHAIN_RESET and AGE_PROMOTION (chapter 2),
REAP (chapter 5) and PURGE (chapter 1). -/

namespace Sys2Proof.Machine

/-! ### SUBMIT -/

/-- What a SUBMIT meets in the Chain Table (R22, R32). -/
inductive ChainTarget where
  | unchained
  | joins (e : ChainId)
  | creates (e : ChainId)
deriving DecidableEq, Repr

/-- The chain checks of the resource step, in order (R22 checks 2 to 4). -/
def State.chainTarget (s : State) (p : Port) (a : SubmitParams) : Except Status ChainTarget :=
  if a.chainId = 0 then .ok .unchained
  else match s.findChain p a.chainId with
    | some e =>
      if (s.chain e).state = .broken then .error .chainBroken
      else if (s.chain e).cls ≠ a.cls then .error .chainClass
      else .ok (.joins e)
    | none =>
      match s.freeChain with
      | some e => .ok (.creates e)
      | none => .error .chainFull

/-- The chain field of the new job (R23 step 3). -/
def ChainTarget.field (t : ChainTarget) (id : BitVec 8) : Option (BitVec 8 × ChainId) :=
  match t with
  | .unchained => none
  | .joins e => some (id, e)
  | .creates e => some (id, e)

/-- The job record as SUBMIT fills it (R8, R23). -/
def State.newJob (s : State) (p : Port) (a : SubmitParams) (t : ChainTarget) : Job :=
  { Job.cleared with
    producer := some p
    cls := a.cls
    baseUrgency := a.urgency
    urgency := a.urgency
    tag := a.tag
    chain := t.field a.chainId
    report := a.report
    action := a.action
    payload := a.payload
    leaseLimit := if a.leaseLimit = 0 then (s.policyOf a.cls).defaultLease else a.leaseLimit
    attemptLimit := if a.attemptLimit = 0 then (s.policyOf a.cls).defaultAttempts else a.attemptLimit
    qseq := s.seqCounter
    queuedSince := some s.timeBase }

/-- The Chain Table creates the entry or finds it, and appends the job (R32, R23 step 3). -/
def State.joinChain (s : State) (p : Port) (a : SubmitParams) (i : SlotId) (t : ChainTarget) : State :=
  match t with
  | .unchained => s
  | .joins e => s.modChain e fun c => { c with list := c.list ++ [i] }
  | .creates e => s.modChain e fun _ =>
      { ChainEntry.cleared with
        state := .isOpen, owner := some p, chainId := a.chainId, cls := a.cls, strict := a.strict, list := [i] }

/-- The effects of a taken SUBMIT, with `i` the head of the free list (R23). -/
def State.submitJob (s : State) (p : Port) (a : SubmitParams) (i : SlotId) (t : ChainTarget) : State :=
  let u := (s.modSlot i fun sl =>
    { Slot.empty sl.gen with state := .queued, job := s.newJob p a t }).modPort p fun r =>
      { r with quotaCount := r.quotaCount + 1 }
  ({ u with freeList := s.freeList.tail, seqCounter := s.seqCounter + 1 }.joinChain p a i t).enterQueue i

/-- SUBMIT after the frame step (R21 to R23). -/
def submitBody (p : Port) (ps : List Byte) (s : State) : Taken :=
  if !s.admits p inJoined then refuse .wrongState s
  else if !(s.port p).roles.producer then refuse .notPermitted s
  else match parseSubmit ps with
    | none => refuse .badParam s
    | some a =>
      if (s.port p).quotaCount ≥ (s.port p).quota then refuse .quota s
      else match s.chainTarget p a with
        | .error st => refuse st s
        | .ok t =>
          match s.freeList with
          | [] => refuse .storeFull s
          | i :: _ => accepted (handleBytes (s.handle i)) (s.submitJob p a i t)

def execSubmit (p : Port) (q : Seq) (ps : List Byte) (s : State) : Next :=
  .next (hostFrame p q ps (submitBody p ps) s)

/-! ### CANCEL -/

/-- A cancel request for an ACTIVE job (R86). -/
def State.requestCancel (s : State) (i : SlotId) : State :=
  if (s.job i).cancelRequested then s
  else (s.writeJob i fun j => { j with cancelRequested := true }).tellConsumer i (s.job i).consumer .cancelRequest

/-- CANCEL after the frame step (R41). -/
def cancelBody (p : Port) (ps : List Byte) (s : State) : Taken :=
  if !s.admits p inSession then refuse .wrongState s
  else if !((s.port p).roles.producer || s.isManager p) then refuse .notPermitted s
  else match parseHandle ps with
    | none => refuse .badParam s
    | some h =>
      onJob h s
        (if !((s.job h.slot).producer == some p || s.isManager p) then refuse .notOwner s
        else match (s.slot h.slot).state with
          | .queued => closing (accepted [Config.outcomeCode .finished] (s.finishJob h.slot .cancelled))
          | .offered => closing (accepted [Config.outcomeCode .finished] (s.cancelOffered h.slot))
          | .active => accepted [Config.outcomeCode .requested] (s.requestCancel h.slot)
          | _ => refuse .jobState s)

def execCancel (p : Port) (q : Seq) (ps : List Byte) (s : State) : Next :=
  .next (hostFrame p q ps (cancelBody p ps) s)

/-! ### REAP -/

/-- The response data of REAP (R103). -/
def State.reapData (s : State) (h : Handle) (st : FinishStatus) : List Byte :=
  let j := s.job h.slot
  let ws := j.result.getD []
  handleBytes h ++ [st.code] ++ optByte j.userCode ++ num1 j.attempts ++ num1 j.attemptLimit ++ num1 ws.length
    ++ ws.flatMap wordBytes

/-- An owed JOB_DONE producer mark is discarded (R103 step 2). -/
def State.dropJobDone (s : State) (i : SlotId) : State :=
  match (s.slot i).producerMark with
  | some ⟨_, .jobDone _ _⟩ => s.setProducerMark i none
  | _ => s

/-- REAP after the frame step (R102, R103). A DONE record holds a finish status (R2). -/
def reapBody (p : Port) (ps : List Byte) (s : State) : Taken :=
  if !s.admits p inSession then refuse .wrongState s
  else if !(s.port p).roles.producer then refuse .notPermitted s
  else match parseHandle ps with
    | none => refuse .badParam s
    | some h =>
      onJob h s
        (if (s.job h.slot).producer ≠ some p then refuse .notOwner s
        else if (s.slot h.slot).state ≠ .done then refuse .jobState s
        else closing (accepted (s.reapData h ((s.job h.slot).finish.getD .success))
          ((s.dropJobDone h.slot).release h.slot)))

def execReap (p : Port) (q : Seq) (ps : List Byte) (s : State) : Next :=
  .next (hostFrame p q ps (reapBody p ps) s)

/-! ### CHAIN_RESET -/

/-- The response data of CHAIN_RESET: chain id, failing handle, count, and whether a notice was still owed
(R40). A BROKEN entry holds a break record (R31). -/
def ChainEntry.resetData (c : ChainEntry) : List Byte :=
  let b := c.breakRec.getD (⟨0, 0⟩, 0)
  [c.chainId] ++ handleBytes b.1 ++ num1 b.2 ++ yesNo c.owed.isSome

/-- CHAIN_RESET after the frame step (R40). -/
def chainResetBody (p : Port) (ps : List Byte) (s : State) : Taken :=
  if !s.admits p inSession then refuse .wrongState s
  else if !(s.port p).roles.producer then refuse .notPermitted s
  else match parseChainId ps with
    | none => refuse .badParam s
    | some id =>
      match s.findChain p id with
      | none => refuse .jobState s
      | some e =>
        if (s.chain e).state ≠ .broken then refuse .jobState s
        else accepted (s.chain e).resetData (s.modChain e fun _ => ChainEntry.cleared)

def execChainReset (p : Port) (q : Seq) (ps : List Byte) (s : State) : Next :=
  .next (hostFrame p q ps (chainResetBody p ps) s)

/-! ### PURGE -/

/-- PURGE after the frame step (R17). -/
def purgeBody (p : Port) (ps : List Byte) (s : State) : Taken :=
  managerCommand p (parseSlot ps) s fun i =>
    if (s.slot i).state ≠ .quarantined then refuse .jobState s
    else
      let t := (s.release i).closeSlots
      accepted (handleBytes (t.handle i) ++ [(t.slot i).state.code]) t

def execPurge (p : Port) (q : Seq) (ps : List Byte) (s : State) : Next :=
  .next (hostFrame p q ps (purgeBody p ps) s)

/-! ### AGE_PROMOTION -/

/-- The promotion of a QUEUED job below its class's ceiling (R29). -/
def State.promote (s : State) (i : SlotId) : State :=
  let row := s.policyOf (s.job i).cls
  let t := s.modSlot i fun sl => { sl with promoDue := sl.promoDue - 1 }
  if row.ageStep ≠ 0 ∧ (s.job i).urgency < row.ageCeiling then
    ((t.leaveQueue i).writeJob i fun j => { j with urgency := j.urgency + 1 }).enterQueue i
  else t

/-- AGE_PROMOTION of the job in slot `i` (R29, R30). It does not take place unless a promotion instant is due
(log entries 4 and 7). -/
def execAgePromotion (i : SlotId) (s : State) : Next :=
  if s.inReset || (s.slot i).state != .queued || (s.slot i).promoDue == 0 then .next s
  else if s.testFails i then .next (s.quarantine i).close
  else .next (s.promote i)

end Sys2Proof.Machine
end

