-- ==== Sys2Proof/Machine/Notices.lean ====
section
/-! DEFINITION. FETCH and the delivery of owed marks (chapter 7). -/

namespace Sys2Proof.Machine

/-- The records a FETCH of count `n` removes from the head of the queue, while `room` response bytes remain
(R133). -/
def takeRecords (n room : Nat) (q : List Event) : List Event :=
  match n, q with
  | n + 1, e :: es =>
    if e.bytes.length ≤ room then e :: takeRecords n (room - e.bytes.length) es else []
  | _, _ => []

/-- The next owed port notice of a notice set in R136's order, with the set without it. -/
def NoticeSet.next (ns : NoticeSet) : Option (PortNotice × NoticeSet) :=
  if ns.left then some (.left, { ns with left := false })
  else if ns.evicted then some (.evicted, { ns with evicted := false })
  else if ns.stalled then some (.stalled, { ns with stalled := false })
  else match ns.portStalled with
    | some q => some (.portStalled q, { ns with portStalled := none })
    | none =>
      match ns.managerChanged with
      | some m => some (.managerChanged m, { ns with managerChanged := none })
      | none =>
        if ns.holdOn then some (.holdOn, { ns with holdOn := false })
        else if ns.holdOff then some (.holdOff, { ns with holdOff := false })
        else if ns.cleared then some (.cleared, { ns with cleared := false })
        else none

/-- Deliver one owed port notice of port `p`, if there is one and room (R138 part 1). -/
def deliverNotice (p : Port) (s : State) : State :=
  match s.queueRoom p, (s.port p).notices.next with
  | true, some (n, ns) => (s.enqueue p (.portNotice n)).modPort p fun r => { r with notices := ns }
  | _, _ => s

/-- Deliver a slot's producer mark owed to port `p`, if there is one and room (R138 part 2). -/
def deliverProducer (p : Port) (s : State) (i : SlotId) : State :=
  match s.queueRoom p && (s.slot i).owesProducer p, (s.slot i).producerMark with
  | true, some m => (s.enqueue p (m.notice.event (s.handle i))).setProducerMark i none
  | _, _ => s

/-- Deliver a slot's consumer mark for port `p`, if there is one and room (R138 part 2). -/
def deliverConsumer (p : Port) (s : State) (i : SlotId) : State :=
  match s.queueRoom p, (s.slot i).consumerMarks[p] with
  | true, some n => (s.enqueue p (n.event (s.handle i))).setConsumerMark i p none
  | _, _ => s

/-- Within one slot, the producer mark before the consumer mark (R138 part 2). -/
def deliverSlot (p : Port) (s : State) (i : SlotId) : State := deliverConsumer p (deliverProducer p s i) i

/-- Deliver a chain entry's owed CHAIN_BROKEN (R138 part 3). -/
def deliverChain (p : Port) (s : State) (e : ChainId) : State :=
  match s.queueRoom p && (s.chain e).owes p, (s.chain e).owed with
  | true, some m =>
    (s.enqueue p (.chainBroken m.chainId m.failing m.count)).modChain e fun c => { c with owed := none }
  | _, _ => s

/-- Deliver a PENDING entry's WATCH_HIT with its held value (R138 part 4, R125). -/
def deliverWatch (p : Port) (s : State) (k : WatchId) : State :=
  if s.queueRoom p && (s.watch k).owes p then
    (s.enqueue p (.watchHit k (s.watch k).flag ((s.watch k).held.getD 0))).settleWatch k
  else s

/-- Deliver the marks owed to port `p` in the delivery order until its queue is full (R134, R138). -/
def State.deliver (s : State) (p : Port) : State :=
  let t := Nat.repeat (deliverNotice p) 8 s
  allWatches.foldl (deliverWatch p) (allChains.foldl (deliverChain p) (allSlots.foldl (deliverSlot p) t))

/-- FETCH after the frame step (R133, R134). -/
def fetchBody (p : Port) (ps : List Byte) (s : State) : Taken :=
  if !s.admits p inAny then refuse .wrongState s
  else match parseFetch ps with
    | none => refuse .badParam s
    | some n =>
      let es := takeRecords n Config.dataCapacity (s.port p).queue
      let t := s.modPort p fun r => { r with queue := r.queue.drop es.length }
      accepted (num1 es.length ++ es.flatMap Event.bytes) (t.deliver p).closeSlots

def execFetch (p : Port) (q : Seq) (ps : List Byte) (s : State) : Next :=
  .next (hostFrame p q ps (fetchBody p ps) s)

end Sys2Proof.Machine
end

