-- ==== Sys2Proof/Machine/Offers.lean ====
section
/-! DEFINITION. Dispatch and offers (chapter 3): ACCEPT, DECLINE, OFFER and OFFER_WINDOW_EXPIRY. -/

namespace Sys2Proof.Machine

/-! ### ACCEPT and DECLINE -/

/-- The checks that ACCEPT and DECLINE share (R54), then the command's own effect. -/
def offerCommand (p : Port) (ps : List Byte) (s : State) (k : Handle → Taken) : Taken :=
  if !s.admits p inSession then refuse .wrongState s
  else if !(s.port p).roles.consumer then refuse .notPermitted s
  else match parseHandle ps with
    | none => refuse .badParam s
    | some h =>
      onJob h s
        (if (s.slot h.slot).state = .done then refuse .jobState s
        else if (s.slot h.slot).state = .queued ∨ (s.job h.slot).consumer ≠ some p then refuse .notOwner s
        else if (s.slot h.slot).state ≠ .offered then refuse .jobState s
        else k h)

/-- An ACCEPT taken by port `p` (R55). -/
def State.acceptJob (s : State) (i : SlotId) (p : Port) : State :=
  let t := s.writeSlot i fun sl =>
    { sl with
      state := .active
      job := { sl.job with
        attempts := sl.job.attempts + 1
        deadline := some (s.after sl.job.leaseLimit)
        reclaimedFrom := none } }
  let t := t.modPort p fun r => { r with workingSet := r.workingSet ++ [i] }
  match s.inChain i with
  | some e => t.modChain e fun c => { c with lastConsumer := some p }
  | none => t

/-- ACCEPT after the frame step (R54, R55). -/
def acceptBody (p : Port) (ps : List Byte) (s : State) : Taken :=
  offerCommand p ps s fun h =>
    let j := s.job h.slot
    accepted (handleBytes h ++ num1 (j.attempts + 1) ++ num1 j.attemptLimit ++ num2 j.leaseLimit)
      (s.acceptJob h.slot p)

def execAccept (p : Port) (q : Seq) (ps : List Byte) (s : State) : Next :=
  .next (hostFrame p q ps (acceptBody p ps) s)

/-- The offer of the job in slot `i` to port `p` ends with `p` in its declined set and the job requeued (R56
steps 1 to 3, R57 steps 1 to 3). -/
def State.declineJob (s : State) (i : SlotId) (p : Port) : State :=
  ((s.leaveConsumer i).writeJob i fun j => { j with declined := j.declined.set p true }).requeue i

/-- DECLINE after the frame step (R54, R56). -/
def declineBody (p : Port) (ps : List Byte) (s : State) : Taken :=
  offerCommand p ps s fun h => accepted (handleBytes h) (s.declineJob h.slot p)

def execDecline (p : Port) (q : Seq) (ps : List Byte) (s : State) : Next :=
  .next (hostFrame p q ps (declineBody p ps) s)

/-! ### Ranking and choice -/

/-- The classes in rotation order (R50). -/
def State.rotatedClasses (s : State) : List ClassId := allClasses.map (s.classPtr + ·)

/-- The ports in rotation order (R51). -/
def State.rotatedPorts (s : State) : List Port := allPorts.map (s.portPtr + ·)

/-- The QUEUED jobs of the classes that are not paused, highest-ranked first (R47, R50): by urgency, then by
class in rotation, then by place in the class queue (log entry 21). -/
def State.ranked (s : State) : List SlotId :=
  (List.range 16).reverse.flatMap fun u =>
    s.rotatedClasses.flatMap fun c =>
      if s.isPaused c then [] else (s.classQueue c).filter fun i => (s.job i).urgency == u

/-- The front of the job's chain list, or the job itself when it is in none (R34). -/
def State.front (s : State) (i : SlotId) : SlotId :=
  match s.inChain i with
  | some e => (s.chain e).list.headD i
  | none => i

/-- Port `p` is eligible for the job in slot `i` (R48). -/
def State.eligible (s : State) (i : SlotId) (p : Port) : Bool :=
  let r := s.port p
  let j := s.job i
  r.state == .joined && r.roles.consumer && !r.stalled && r.mask.getLsbD j.cls.val && r.floor ≤ j.urgency
    && s.load p < r.credits && !j.declined[p] && s.room p

def State.eligiblePorts (s : State) (i : SlotId) : List Port := s.rotatedPorts.filter (s.eligible i)

/-- The chain's last consumer (R51 step 2). -/
def State.affinity (s : State) (i : SlotId) : Option Port :=
  match s.inChain i with
  | some e => (s.chain e).lastConsumer
  | none => none

/-- The consumer choice (R51): the least loaded eligible ports, then the chain's last consumer, then the
rotation. -/
def State.choosePort (s : State) (i : SlotId) : Option Port :=
  let els := s.eligiblePorts i
  let tied := els.filter fun p => els.all fun q => s.load p ≤ s.load q
  match s.affinity i with
  | some p => if tied.contains p then some p else tied.head?
  | none => tied.head?

/-- The Dispatcher stops at this job of its ranking: the record read for it fails its test, or it is not
chain-blocked and has an eligible port. For a job behind its chain's front the record read is the
front's (R13, R50; log entries 2 and 16). -/
def State.stopsAt (s : State) (i : SlotId) : Bool :=
  s.testFails (s.front i) || (s.front i == i && !(s.eligiblePorts i).isEmpty)

/-- The offer of the job in slot `i` to port `p` (R52, R53). -/
def State.makeOffer (s : State) (i : SlotId) (p : Port) : State :=
  let j := s.job i
  let t := (s.leaveQueue i).writeSlot i fun sl =>
    { sl with
      state := .offered
      promoDue := 0
      job := { sl.job with
        consumer := some p
        deadline := some (s.after (s.policyOf j.cls).offerWindow)
        queuedSince := none } }
  { t.enqueue p (.offer (s.handle i) j.cls j.urgency j.tag j.payload) with
    classPtr := j.cls + 1, portPtr := p + 1 }

/-- One offer (R49, R50): a failing record is quarantined and passed over, and the ranking goes on with the
jobs that remain. The Bool says whether a record was quarantined. `fuel` bounds the quarantines by the
number of slots. -/
def State.dispatch (fuel : Nat) (quarantined : Bool) (s : State) : State × Bool :=
  match fuel with
  | 0 => (s, quarantined)
  | n + 1 =>
    match s.ranked.find? s.stopsAt with
    | none => (s, quarantined)
    | some i =>
      if s.testFails (s.front i) then State.dispatch n true (s.quarantine (s.front i))
      else match s.choosePort i with
        | some p => (s.makeOffer i p, quarantined)
        | none => (s, quarantined)

/-- OFFER (R49, R53). Under HOLD, or with no job that has an eligible port, the event makes no offer (R47,
R50). -/
def execOffer (s : State) : Next :=
  if s.inReset || s.hold then .next s
  else
    let r := State.dispatch 257 false s
    .next (r.1.closeIf r.2)

/-! ### The offer window -/

/-- A window expiry of an offer to port `p` counts as a missed offer; at 3 the port becomes STALLED and it and
the manager are told (R64). -/
def State.missOffer (s : State) (p : Port) : State :=
  if (s.port p).missed < Config.missLimit then
    let t := s.modPort p fun r => { r with missed := r.missed + 1 }
    if (s.port p).missed + 1 = Config.missLimit then
      let t := (t.modPort p fun r => { r with stalled := true }).notifyPort p .stalled
      match s.manager with
      | some m => t.notifyPort m (.portStalled p)
      | none => t
    else t
  else s

/-- The expiry of the offer of the job in slot `i` to port `p` (R57). -/
def State.expireOffer (s : State) (i : SlotId) (p : Port) : State :=
  ((s.declineJob i p).notifyConsumer i p (.offerWithdrawn .window)).missOffer p

/-- The offer of the job in slot `i` has a due deadline (R177, R178). -/
def State.offerDue (s : State) (i : SlotId) : Bool :=
  (s.slot i).state == .offered && s.due (s.job i).deadline

/-- OFFER_WINDOW_EXPIRY of the job in slot `i` (R57). It does not take place unless the deadline is due (log
entry 7). -/
def execOfferWindowExpiry (i : SlotId) (s : State) : Next :=
  if s.inReset || !s.offerDue i then .next s
  else if s.testFails i then .next (s.quarantine i).close
  else match (s.job i).consumer with
    | some p => .next (s.expireOffer i p)
    | none => .next s

end Sys2Proof.Machine
end

