-- ==== Sys2Proof/Machine/Search.lean ====
section
/-! DEFINITION. The Search Unit (chapter 9): QUERY, FIND, CANCEL_MATCH, READ_COUNTS and SCAN_VISIT. -/

namespace Sys2Proof.Machine

/-- The job in slot `i` is visible to port `p` (R164). -/
def State.visible (s : State) (i : SlotId) (p : Port) : Bool :=
  let st := (s.slot i).state
  let j := s.job i
  (st.tested || st == .quarantined)
    && (s.isManager p || j.producer == some p || ((st == .offered || st == .active) && j.consumer == some p)
      || (st == .quarantined && j.lostHolder == some p))

/-! ### QUERY -/

/-- The values QUERY carries, by state (R166's table; log entry 10). -/
def State.queryData (s : State) (i : SlotId) : List Byte :=
  let st := (s.slot i).state
  let j := s.job i
  let held := st == .offered || st == .active
  [st.code] ++ num1 j.cls.val ++ num2 j.tag.toNat
    ++ (if st = .quarantined then []
        else portByte j.producer ++ yesNo j.report ++ num1 j.baseUrgency ++ num1 j.urgency
          ++ optByte (j.chain.map Prod.fst) ++ num1 j.attempts ++ num1 j.attemptLimit
          ++ (if held then portByte j.consumer ++ num2 (s.ticksTo (j.deadline.getD s.timeBase)) else [])
          ++ (if st = .active then yesNo j.cancelRequested else [])
          ++ (if st = .done then [(j.finish.getD .success).code] ++ optByte j.userCode else []))

/-- QUERY after the handle test and the read (R165): visibility is judged on the slot as the read left it. -/
def answerQuery (p : Port) (i : SlotId) (s : State) : Taken :=
  if s.visible i p then accepted (s.queryData i) s else refuse .notOwner s

/-- QUERY after the frame step (R165, R166). -/
def queryBody (p : Port) (ps : List Byte) (s : State) : Taken :=
  if !s.admits p inSession then refuse .wrongState s
  else match parseHandle ps with
    | none => refuse .badParam s
    | some h =>
      if !s.handleOk h then refuse .stale s
      else if s.testFails h.slot then closing (answerQuery p h.slot (s.quarantine h.slot))
      else answerQuery p h.slot s

def execQuery (p : Port) (q : Seq) (ps : List Byte) (s : State) : Next :=
  .next (hostFrame p q ps (queryBody p ps) s)

/-! ### FIND and CANCEL_MATCH -/

/-- A scan begins at slot `start` (R163, R167). -/
def State.beginScan (s : State) (p : Port) (sc : Scan) : State := s.modPort p fun r => { r with scan := some sc }

/-- The response data of a FIND: count, hits, cursor (R169; log entry 10). -/
def findData (hits : List (Handle × SlotState)) (cursor : Nat) : List Byte :=
  num1 hits.length ++ hits.flatMap (fun h => handleBytes h.1 ++ [h.2.code]) ++ num2 cursor

/-- END is set when the cursor is 256 (R169). DESIGN CHOICE: one byte, 1 when set and 0 otherwise; R197 gives no
code for a flag that is set or clear (log entry 10). -/
def findEnd (cursor : Nat) : List Byte := yesNo (decide (256 ≤ cursor))

/-- FIND after the frame step (R168). A CONTINUE with the cursor at 256 visits no slot. -/
def findBody (p : Port) (ps : List Byte) (s : State) : Taken :=
  if !s.admits p inSession then refuse .wrongState s
  else match parseFind ps with
    | none => refuse .badParam s
    | some a =>
      let start := if a.continues then (s.port p).cursor else 0
      let t := s.modPort p fun r => { r with cursor := start }
      if h : start < 256 then
        (t.beginScan p ⟨.find a.states [], a.cls, a.tagKey, a.care, ⟨start, h⟩⟩, none)
      else accepted (findData [] start ++ findEnd start) t

def execFind (p : Port) (q : Seq) (ps : List Byte) (s : State) : Next :=
  .next (hostFrame p q ps (findBody p ps) s)

/-- CANCEL_MATCH after the frame step (R170). -/
def cancelMatchBody (p : Port) (ps : List Byte) (s : State) : Taken :=
  if !s.admits p inSession then refuse .wrongState s
  else if !((s.port p).roles.producer || s.isManager p) then refuse .notPermitted s
  else match parseCancelMatch ps with
    | none => refuse .badParam s
    | some a => (s.beginScan p ⟨.cancelMatch a.includeOffered 0, a.cls, a.tagKey, a.care, 0⟩, none)

def execCancelMatch (p : Port) (q : Seq) (ps : List Byte) (s : State) : Next :=
  .next (hostFrame p q ps (cancelMatchBody p ps) s)

/-! ### SCAN_VISIT -/

/-- The state is in the set (R169). -/
def StateSet.has (ss : StateSet) (st : SlotState) : Bool :=
  match st with
  | .queued => ss.queued
  | .offered => ss.offered
  | .active => ss.active
  | .done => ss.done
  | .quarantined => ss.quarantined
  | .free => false
  | .retiring => false

/-- The slot's class and tag answer the scan's criteria (R169). -/
def State.answersScan (s : State) (i : SlotId) (sc : Scan) : Bool :=
  (match sc.cls with
    | some c => (s.job i).cls == c
    | none => true) && tagAnswers (s.job i).tag sc.tagKey sc.care

/-- The slot is a hit of a FIND (R169). -/
def State.findHit (s : State) (p : Port) (i : SlotId) (sc : Scan) (ss : StateSet) : Bool :=
  ss.has (s.slot i).state && s.answersScan i sc && s.visible i p

/-- The slot is a hit of a CANCEL_MATCH (R170). -/
def State.cancelHit (s : State) (p : Port) (i : SlotId) (sc : Scan) (incl : Bool) : Bool :=
  ((s.slot i).state == .queued || ((s.slot i).state == .offered && incl)) && s.answersScan i sc
    && (s.isManager p || (s.job i).producer == some p)

/-- A hit of a CANCEL_MATCH is cancelled as a CANCEL of it would be (R170). -/
def State.cancelAtVisit (s : State) (i : SlotId) : State :=
  if (s.slot i).state = .offered then s.cancelOffered i else s.finishJob i .cancelled

/-- The scan goes on, or stops with its response (R169, R170). `kind` is the scan with this visit's hit. DESIGN
CHOICE: the response of a FIND whose stop ends its port's drain carries the cursor at the stop, before the drain's
end sets the cursor to 0 at the close (R153; log entry 20). -/
def State.advanceScan (s : State) (p : Port) (sc : Scan) (kind : ScanKind) : State :=
  let cursor := sc.next.val + 1
  match kind with
  | .find _ hits =>
    let t := s.modPort p fun r => { r with cursor := cursor }
    if hits.length = Config.maxHits ∨ cursor = 256 then
      (t.modPort p fun r => { r with scan := none }).answerInFlight p ⟨.ok, findData hits cursor ++ findEnd cursor⟩
    else t.modPort p fun r => { r with scan := some { sc with kind := kind, next := sc.next + 1 } }
  | .cancelMatch _ n =>
    if cursor = 256 then
      (s.modPort p fun r => { r with scan := none }).answerInFlight p ⟨.ok, num2 n⟩
    else s.modPort p fun r => { r with scan := some { sc with kind := kind, next := sc.next + 1 } }

/-- One visit (R167): the read, the judgement, and the act on a hit. -/
def State.visit (s : State) (p : Port) (sc : Scan) : State :=
  let i := sc.next
  let t := s.readRecord i
  match sc.kind with
  | .find ss hits =>
    t.advanceScan p sc
      (.find ss (if t.findHit p i sc ss then hits ++ [(t.handle i, (t.slot i).state)] else hits))
  | .cancelMatch incl n =>
    if t.cancelHit p i sc incl then (t.cancelAtVisit i).advanceScan p sc (.cancelMatch incl (n + 1))
    else t.advanceScan p sc sc.kind

/-- SCAN_VISIT of the scan of port `p` (R167), whose close may end the port's drain after the response is made
(R153; log entry 20). It does not take place for a port without a scan, nor for a
departing port (R173; log entry 7). -/
def execScanVisit (p : Port) (s : State) : Next :=
  if s.inReset || s.departing p then .next s
  else match (s.port p).scan with
    | some sc => .next (s.visit p sc).close
    | none => .next s

/-! ### READ_COUNTS -/

/-- The values of READ_COUNTS (R174's table; log entry 10). DESIGN CHOICE: HOLD is one byte, 1 for on and 0 for off;
R197 gives codes for yes and no but none for on and off. -/
def State.counts (s : State) : List Byte :=
  allClasses.flatMap (fun c => num2 (s.classQueue c).length)
    ++ allPorts.flatMap (fun p => num1 (s.load p) ++ num1 (s.port p).credits)
    ++ num2 (s.countState .free) ++ num2 (s.countState .done) ++ num2 (s.countState .retiring)
    ++ num2 (s.countState .quarantined)
    ++ num1 (allChains.countP fun e => (s.chain e).state == .isOpen)
    ++ num1 (allChains.countP fun e => (s.chain e).state == .broken)
    ++ num1 (allWatches.countP fun k => (s.watch k).state != .free)
    ++ yesNo s.hold ++ allClasses.flatMap (fun c => yesNo (s.isPaused c)) ++ wordBytes s.timeBase

/-- READ_COUNTS after the frame step (R174). -/
def readCountsBody (p : Port) (ps : List Byte) (s : State) : Taken :=
  if !s.admits p inAny then refuse .wrongState s
  else match parseEmpty ps with
    | none => refuse .badParam s
    | some () => accepted s.counts s

def execReadCounts (p : Port) (q : Seq) (ps : List Byte) (s : State) : Next :=
  .next (hostFrame p q ps (readCountsBody p ps) s)

end Sys2Proof.Machine
end

