-- ==== Sys2Proof/Machine/Transactions.lean ====
section
/-! DEFINITION. The rows that name a transaction by its bytes: COMMAND_FRAME_BAD, RETRANSMISSION, OVERRUN,
BAD_COMMAND and GOOD_FRAME_ON_DOWN_PORT. What becomes of the bytes is for the link to decide from its own
state (R190, R192, R193), so each of these rows hands them to it (log entry 8). -/

namespace Sys2Proof.Machine

/-- The body of the command that a code names; a code not in the table is refused BAD_COMMAND (R196). -/
def commandBody (p : Port) (f : Frame) (s : State) : Taken :=
  match commandOf p f with
  | some (.join _ _ ps) => joinBody p ps s
  | some (.setService _ _ ps) => setServiceBody p ps s
  | some (.leaveDrain _ _ ps) => leaveBody p ps s
  | some (.leaveNow _ _ ps) => leaveBody p ps s
  | some (.portStatus _ _ ps) => portStatusBody p ps s
  | some (.claimManager _ _ ps) => claimManagerBody p ps s
  | some (.releaseManager _ _ ps) => releaseManagerBody p ps s
  | some (.submit _ _ ps) => submitBody p ps s
  | some (.cancel _ _ ps) => cancelBody p ps s
  | some (.reap _ _ ps) => reapBody p ps s
  | some (.chainReset _ _ ps) => chainResetBody p ps s
  | some (.accept _ _ ps) => acceptBody p ps s
  | some (.decline _ _ ps) => declineBody p ps s
  | some (.renew _ _ ps) => renewBody p ps s
  | some (.returnJob _ _ ps) => returnBody p ps s
  | some (.complete _ _ ps) => completeBody p ps s
  | some (.flagRead _ _ ps) => flagReadBody p ps s
  | some (.flagCombine _ _ ps) => flagCombineBody p ps s
  | some (.watchSet _ _ ps) => watchSetBody p ps s
  | some (.watchClear _ _ ps) => watchClearBody p ps s
  | some (.fetch _ _ ps) => fetchBody p ps s
  | some (.query _ _ ps) => queryBody p ps s
  | some (.find _ _ ps) => findBody p ps s
  | some (.cancelMatch _ _ ps) => cancelMatchBody p ps s
  | some (.readCounts _ _ ps) => readCountsBody p ps s
  | some (.hold _ _ ps) => holdBody p ps s
  | some (.resume _ _ ps) => resumeBody p ps s
  | some (.pauseClass _ _ ps) => pauseClassBody p ps s
  | some (.unpauseClass _ _ ps) => unpauseClassBody p ps s
  | some (.setClassPolicy _ _ ps) => setClassPolicyBody p ps s
  | some (.setTickDivisor _ _ ps) => setTickDivisorBody p ps s
  | some (.setQuota _ _ ps) => setQuotaBody p ps s
  | some (.setOrphanPolicy _ _ ps) => setOrphanPolicyBody p ps s
  | some (.evict _ _ ps) => evictBody p ps s
  | some (.purge _ _ ps) => purgeBody p ps s
  | some (.clearAll _ _ ps) => clearAllBody p ps s
  | _ => refuse .badCommand s

/-- A transaction on port `p` (R189, R190): no whole byte has no effect, kind RESPONSE is a response read,
anything else is a command frame. -/
def State.transaction (s : State) (p : Port) (bytes : List Byte) : State :=
  s.endTransaction p fun s =>
    match bytes with
    | [] => s
    | kind :: rest =>
      if kind = kindResponse then s.readResponse p rest.length
      else
        let t := s.drivePdo p (List.replicate bytes.length 0xFF)
        match checkFrame bytes with
        | some f => t.goodFrame p f.seq (commandBody p f)
        | none => t.badFrame p (badFrameSeq bytes)

/-- COMMAND_FRAME_BAD (R190). -/
def execCommandFrameBad (p : Port) (bytes : List Byte) (s : State) : Next := .next (s.transaction p bytes)

/-- RETRANSMISSION (R192). -/
def execRetransmission (p : Port) (bytes : List Byte) (s : State) : Next := .next (s.transaction p bytes)

/-- OVERRUN (R193). -/
def execOverrun (p : Port) (bytes : List Byte) (s : State) : Next := .next (s.transaction p bytes)

/-- BAD_COMMAND (R196). -/
def execBadCommand (p : Port) (bytes : List Byte) (s : State) : Next := .next (s.transaction p bytes)

/-- GOOD_FRAME_ON_DOWN_PORT (R192). -/
def execGoodFrameOnDownPort (p : Port) (bytes : List Byte) (s : State) : Next := .next (s.transaction p bytes)

end Sys2Proof.Machine
end

