-- ==== Sys2Proof/Machine/Dispatch.lean ====
section
/-! DEFINITION. The effect of each command on everything but the queue of waiting commands. -/

namespace Sys2Proof.Machine

def exec (i : Instr) (s : State) : Host.Outcome State Fault Refusal :=
  match i with
  | .commandFrameBad p bytes => Sys2Proof.Machine.execCommandFrameBad p bytes s
  | .retransmission p bytes => Sys2Proof.Machine.execRetransmission p bytes s
  | .overrun p bytes => Sys2Proof.Machine.execOverrun p bytes s
  | .badCommand p bytes => Sys2Proof.Machine.execBadCommand p bytes s
  | .responseRead p n => Sys2Proof.Machine.execResponseRead p n s
  | .join p q ps => Sys2Proof.Machine.execJoin p q ps s
  | .setService p q ps => Sys2Proof.Machine.execSetService p q ps s
  | .leaveDrain p q ps => Sys2Proof.Machine.execLeaveDrain p q ps s
  | .leaveNow p q ps => Sys2Proof.Machine.execLeaveNow p q ps s
  | .portStatus p q ps => Sys2Proof.Machine.execPortStatus p q ps s
  | .claimManager p q ps => Sys2Proof.Machine.execClaimManager p q ps s
  | .releaseManager p q ps => Sys2Proof.Machine.execReleaseManager p q ps s
  | .submit p q ps => Sys2Proof.Machine.execSubmit p q ps s
  | .cancel p q ps => Sys2Proof.Machine.execCancel p q ps s
  | .reap p q ps => Sys2Proof.Machine.execReap p q ps s
  | .chainReset p q ps => Sys2Proof.Machine.execChainReset p q ps s
  | .accept p q ps => Sys2Proof.Machine.execAccept p q ps s
  | .decline p q ps => Sys2Proof.Machine.execDecline p q ps s
  | .renew p q ps => Sys2Proof.Machine.execRenew p q ps s
  | .returnJob p q ps => Sys2Proof.Machine.execReturn p q ps s
  | .complete p q ps => Sys2Proof.Machine.execComplete p q ps s
  | .flagRead p q ps => Sys2Proof.Machine.execFlagRead p q ps s
  | .flagCombine p q ps => Sys2Proof.Machine.execFlagCombine p q ps s
  | .watchSet p q ps => Sys2Proof.Machine.execWatchSet p q ps s
  | .watchClear p q ps => Sys2Proof.Machine.execWatchClear p q ps s
  | .fetch p q ps => Sys2Proof.Machine.execFetch p q ps s
  | .query p q ps => Sys2Proof.Machine.execQuery p q ps s
  | .find p q ps => Sys2Proof.Machine.execFind p q ps s
  | .cancelMatch p q ps => Sys2Proof.Machine.execCancelMatch p q ps s
  | .readCounts p q ps => Sys2Proof.Machine.execReadCounts p q ps s
  | .hold p q ps => Sys2Proof.Machine.execHold p q ps s
  | .resume p q ps => Sys2Proof.Machine.execResume p q ps s
  | .pauseClass p q ps => Sys2Proof.Machine.execPauseClass p q ps s
  | .unpauseClass p q ps => Sys2Proof.Machine.execUnpauseClass p q ps s
  | .setClassPolicy p q ps => Sys2Proof.Machine.execSetClassPolicy p q ps s
  | .setTickDivisor p q ps => Sys2Proof.Machine.execSetTickDivisor p q ps s
  | .setQuota p q ps => Sys2Proof.Machine.execSetQuota p q ps s
  | .setOrphanPolicy p q ps => Sys2Proof.Machine.execSetOrphanPolicy p q ps s
  | .evict p q ps => Sys2Proof.Machine.execEvict p q ps s
  | .purge p q ps => Sys2Proof.Machine.execPurge p q ps s
  | .clearAll p q ps => Sys2Proof.Machine.execClearAll p q ps s
  | .resetNAssert => Sys2Proof.Machine.execResetNAssert s
  | .resetNRelease => Sys2Proof.Machine.execResetNRelease s
  | .prstNAssert p => Sys2Proof.Machine.execPrstNAssert p s
  | .prstNDeassert p => Sys2Proof.Machine.execPrstNDeassert p s
  | .tick => Sys2Proof.Machine.execTick s
  | .offerWindowExpiry k => Sys2Proof.Machine.execOfferWindowExpiry k s
  | .leaseExpiry k => Sys2Proof.Machine.execLeaseExpiry k s
  | .agePromotion k => Sys2Proof.Machine.execAgePromotion k s
  | .offer => Sys2Proof.Machine.execOffer s
  | .scanVisit p => Sys2Proof.Machine.execScanVisit p s
  | .departureOfferWithdrawal p => Sys2Proof.Machine.execDepartureOfferWithdrawal p s
  | .departureReclaim p => Sys2Proof.Machine.execDepartureReclaim p s
  | .orphanHandling p => Sys2Proof.Machine.execOrphanHandling p s
  | .departureWatchRelease p => Sys2Proof.Machine.execDepartureWatchRelease p s
  | .departureNoticeClear p => Sys2Proof.Machine.execDepartureNoticeClear p s
  | .departureScanAbandon p => Sys2Proof.Machine.execDepartureScanAbandon p s
  | .goodFrameOnDownPort p bytes => Sys2Proof.Machine.execGoodFrameOnDownPort p bytes s

end Sys2Proof.Machine
end

