-- ==== Sys2Proof/Safety.lean ====
section
/-! DEFINITION. The terms in which claims about the VD440 are stated: when a frame is taken, what taking it
does to its port, the states between events, and the laws that the blocks keep. -/

namespace Sys2Proof.Machine

/-! ### Taking a command -/

/-- A command frame with sequence `q` and parameters `ps` that ends on port `p` is taken as a new command
(R189, R190, R192, R193): RESET_N is not asserted, no assertion of PRST_n has abandoned the transaction, no
response read of the port is in progress (a transaction on it comes after that read's end), the
port is not DOWN, no command of it is in flight, the sequence is not the last one taken, and the frame is
not too long. -/
abbrev State.takes (s : State) (p : Port) (q : Seq) (ps : List Byte) : Prop :=
  s.inReset = false ∧ (s.port p).abandoned = false ∧ (s.port p).reading = none ∧ (s.port p).state ≠ .down
    ∧ (s.port p).link.inFlight = false
    ∧ (s.port p).link.lastSeq ≠ some q ∧ ps.length ≤ 64

/-- The state in which a taken command meets the blocks: the part has driven 0xFF while the frame came in
(R189), the sequence is the last one taken and the command is in flight (R192, R193), and the port's
missed-offer count and STALLED flag are cleared (R65). -/
def State.received (s : State) (p : Port) (q : Seq) (ps : List Byte) : State :=
  s.modPort p fun r =>
    { r with
      pdo := List.replicate (5 + ps.length) 0xFF
      link := { r.link with lastSeq := some q, cached := none, inFlight := true }
      missed := 0
      stalled := false }

/-! ### The states between events -/

/-- Nothing is left for the close of an event (R35, R12, R153): no chain entry to free, no RETIRING slot
without a mark, no drain that can end. -/
abbrev State.settled (s : State) : Prop :=
  (∀ e : ChainId, ((s.chain e).list.isEmpty
      && ((s.chain e).state == .isOpen || (s.chain e).state == .broken && (s.chain e).owner.isNone)) = false)
    ∧ (∀ i : SlotId, (s.slot i).state = .retiring → (s.slot i).marked = true)
    ∧ (∀ p : Port, s.drainOver p = false)

/-- Every record agrees with its check code (R13). -/
abbrev State.sound (s : State) : Prop := ∀ i : SlotId, (s.slot i).checkOk = true

/-! ### Laws -/

/-- An event queue never holds more than 32 events (R130). -/
abbrev State.queuesFit (s : State) : Prop := ∀ p : Port, (s.port p).queue.length ≤ 32

/-- The manager is a JOINED port, HOLD is on only under a manager, and a departing port is LEAVING (R159,
R160, R154). -/
abbrev State.claimLaw (s : State) : Prop :=
  (∀ p : Port, s.manager = some p → (s.port p).state = .joined)
    ∧ (s.hold = true → s.manager.isSome = true)
    ∧ (∀ p : Port, (s.port p).departure.isSome = true → (s.port p).state = .leaving)

/-- The prescaler stands below the tick divisor, which is 1 to 65,535 (R177, R179). -/
abbrev State.clockLaw (s : State) : Prop := s.prescaler < s.divisor ∧ s.divisor ≤ 65535

/-- A class queue is in the order of its keys: no job ranks ahead of one before it (R24). -/
abbrev State.inOrder (s : State) (q : List SlotId) : Prop := q.Pairwise fun i j => s.ahead j i = false

/-! ### The owed marks of a port, as the records they deliver -/

/-- The owed port notices of a notice set in R136's order. -/
def NoticeSet.owedNotices (n : NoticeSet) : List PortNotice :=
  (if n.left then [.left] else []) ++ (if n.evicted then [.evicted] else []) ++ (if n.stalled then [.stalled] else [])
    ++ (n.portStalled.map PortNotice.portStalled).toList
    ++ (n.managerChanged.map PortNotice.managerChanged).toList
    ++ (if n.holdOn then [.holdOn] else []) ++ (if n.holdOff then [.holdOff] else [])
    ++ (if n.cleared then [.cleared] else [])

/-- The records of a slot's marks owed to port `p`, the producer mark's first (R138 part 2). -/
def State.slotRecords (s : State) (p : Port) (i : SlotId) : List Event :=
  (((s.slot i).producerMark.filter fun m => m.port == p).map fun m => m.notice.event (s.handle i)).toList
    ++ ((s.slot i).consumerMarks[p].map fun n => n.event (s.handle i)).toList

/-- The record of a chain entry's mark owed to port `p` (R138 part 3). -/
def State.chainRecords (s : State) (p : Port) (e : ChainId) : List Event :=
  if (s.chain e).owner = some p then
    ((s.chain e).owed.map fun m => Event.chainBroken m.chainId m.failing m.count).toList
  else []

/-- The record of a PENDING entry's hit owed to port `p` (R138 part 4). -/
def State.watchRecords (s : State) (p : Port) (k : WatchId) : List Event :=
  if (s.watch k).state = .pending ∧ (s.watch k).owner = some p then
    [.watchHit k (s.watch k).flag ((s.watch k).held.getD 0)]
  else []

/-- All that is owed to port `p`, in the delivery order (R138). -/
def State.owedRecords (s : State) (p : Port) : List Event :=
  (s.port p).notices.owedNotices.map Event.portNotice ++ allSlots.flatMap (s.slotRecords p)
    ++ allChains.flatMap (s.chainRecords p) ++ allWatches.flatMap (s.watchRecords p)

/-! ### Marks discarded -/

/-- A slot without the marks owed to port `p` (R141 step 2); the removal of a mark is a write of the record (R13). -/
def Slot.withoutMarks (sl : Slot) (p : Port) : Slot :=
  { sl with
    checkOk := sl.checkOk || sl.owesProducer p || sl.owesConsumer p
    producerMark := if sl.owesProducer p then none else sl.producerMark
    consumerMarks := sl.consumerMarks.set p none }

/-- In `t` the slots and chain entries of `s` have lost the marks owed to port `p` and nothing else, and the RETIRING
slots left without a mark stand FREE with the next generation, at the tail of the free list in ascending order (R141
steps 2 and 3). -/
abbrev State.marksDiscarded (s t : State) (p : Port) : Prop :=
  (∀ i : SlotId, t.slot i =
      if (s.slot i).state = .retiring ∧ ((s.slot i).withoutMarks p).marked = false then
        Slot.empty ((s.slot i).gen + 1)
      else (s.slot i).withoutMarks p)
    ∧ t.freeList = s.freeList ++ allSlots.filter (fun i =>
        (s.slot i).state == .retiring && !((s.slot i).withoutMarks p).marked)
    ∧ ∀ e : ChainId, t.chain e =
      if (s.chain e).owes p then { s.chain e with owed := none } else s.chain e

/-! ### Power-on -/

/-- The values that the blocks hold after power-on reset: the Control Unit's (R176, R180), the Job Store's (R18),
the Class Queues' and the Chain Table's (R43), the Dispatcher's (R69), the Lease Unit's (R92), the Flag
Unit's (R128), the Notice Unit's (R143), the Session Controller's (R144), the Search Unit's (R175) and the
links' (R195). -/
def State.atPowerOn (s : State) : Prop :=
  (s.timeBase = 0 ∧ s.prescaler = 0 ∧ s.divisor = 250 ∧ s.orphanPolicy = .drop
      ∧ (∀ c : ClassId, s.policyOf c = ⟨100, 2000, 3, 0, 15⟩) ∧ ∀ p : Port, (s.port p).quota = 64)
    ∧ ((∀ i : SlotId, s.slot i = Slot.empty 0) ∧ s.freeList = List.finRange 256
      ∧ ∀ p : Port, (s.port p).quotaCount = 0)
    ∧ ((∀ c : ClassId, s.classQueue c = []) ∧ s.seqCounter = 0 ∧ ∀ e : ChainId, s.chain e = ChainEntry.cleared)
    ∧ ((∀ p : Port, (s.port p).missed = 0 ∧ (s.port p).stalled = false) ∧ s.classPtr = 0 ∧ s.portPtr = 0
      ∧ s.hold = false ∧ ∀ c : ClassId, s.isPaused c = false)
    ∧ (∀ p : Port, (s.port p).workingSet = [] ∧ (s.port p).latch = none ∧ (s.port p).queue = []
      ∧ (s.port p).notices = NoticeSet.clear)
    ∧ ((∀ f : FlagId, s.flagWord f = 0) ∧ ∀ k : WatchId, s.watch k = Watch.cleared)
    ∧ (s.manager = none ∧ ∀ p : Port, (s.port p).state = .down ∧ (s.port p).departure = none
      ∧ (s.port p).roles = Roles.absent ∧ (s.port p).credits = 0 ∧ (s.port p).mask = 0 ∧ (s.port p).floor = 0)
    ∧ ∀ p : Port, (s.port p).cursor = 0 ∧ (s.port p).scan = none ∧ (s.port p).link = Link.cleared
      ∧ (s.port p).reading = none

end Sys2Proof.Machine

namespace Sys2Proof

open Machine

/-- The eleven manager commands of R147's table. -/
def Instr.isManagerRow (i : Instr) : Bool :=
  match i with
  | .hold .. => true
  | .resume .. => true
  | .pauseClass .. => true
  | .unpauseClass .. => true
  | .setClassPolicy .. => true
  | .setTickDivisor .. => true
  | .setQuota .. => true
  | .setOrphanPolicy .. => true
  | .evict .. => true
  | .purge .. => true
  | .clearAll .. => true
  | _ => false

/-- The commands of R147's table that need the consumer role. -/
def Instr.isConsumerRow (i : Instr) : Bool :=
  match i with
  | .setService .. => true
  | .accept .. => true
  | .decline .. => true
  | .renew .. => true
  | .returnJob .. => true
  | .complete .. => true
  | _ => false

/-- The commands of R147's table that need the producer role, whether or not the claim is held. -/
def Instr.isProducerRow (i : Instr) : Bool :=
  match i with
  | .submit .. => true
  | .reap .. => true
  | .chainReset .. => true
  | _ => false

/-- The handle that a command on a job names (R3), none for other commands and blocks refused BAD_PARAM. -/
def Instr.handleOf (i : Instr) : Option Handle :=
  match i with
  | .cancel _ _ ps => parseHandle ps
  | .reap _ _ ps => parseHandle ps
  | .accept _ _ ps => parseHandle ps
  | .decline _ _ ps => parseHandle ps
  | .renew _ _ ps => (parseRenew ps).map Prod.fst
  | .returnJob _ _ ps => (parseReturn ps).map Prod.fst
  | .complete _ _ ps => (parseComplete ps).map CompleteParams.handle
  | .query _ _ ps => parseHandle ps
  | _ => none

/-- The command is a QUERY. -/
def Instr.isQuery (i : Instr) : Bool :=
  match i with
  | .query .. => true
  | _ => false

/-- The command is RENEW, RETURN or COMPLETE. -/
def Instr.isHolderRow (i : Instr) : Bool :=
  match i with
  | .renew .. => true
  | .returnJob .. => true
  | .complete .. => true
  | _ => false

/-- The commands of R147's table that need the producer role or the claim. -/
def Instr.isCancelRow (i : Instr) : Bool :=
  match i with
  | .cancel .. => true
  | .cancelMatch .. => true
  | _ => false

/-- A host command passes the role or claim step on port `p` (R147's table). PORT_STATUS needs the claim to name
another port (R161) and RELEASE_MANAGER needs it (R160; log entry 13). -/
def Machine.State.roleFits (s : State) (p : Port) (i : Instr) : Bool :=
  (!i.isManagerRow || s.isManager p) && (!i.isConsumerRow || (s.port p).roles.consumer)
    && (!i.isProducerRow || (s.port p).roles.producer)
    && (!i.isCancelRow || (s.port p).roles.producer || s.isManager p)
    && match i with
      | .portStatus _ _ ps => ps.head?.all (fun b => b.toNat == p.val) || s.isManager p
      | .releaseManager .. => s.isManager p
      | _ => true

/-- The port on whose link the command's transaction ends, for the rows that are a transaction or the end of one. -/
def Instr.transactionPort (i : Instr) : Option Port :=
  match i with
  | .commandFrameBad p _ => some p
  | .retransmission p _ => some p
  | .overrun p _ => some p
  | .badCommand p _ => some p
  | .goodFrameOnDownPort p _ => some p
  | .responseRead p (.whole _) => some p
  | .responseRead p .ends => some p
  | .responseRead _ _ => none
  | _ => i.frame.map Prod.fst

/-! ### Parameter blocks -/

/-- The byte of a parameter block at an offset, as a number. -/
def byteAt (ps : List Byte) (n : Nat) : Nat := (ps.getD n 0).toNat

/-- A SUBMIT block passes the parameter step (R21, R198). -/
abbrev submitBlock (ps : List Byte) : Prop :=
  let action := byteAt ps 2 / 4 % 2 = 1
  10 ≤ ps.length ∧ byteAt ps 0 ≤ 7 ∧ byteAt ps 1 ≤ 15 ∧ byteAt ps 8 ≤ 7 ∧ byteAt ps 9 ≤ 8
    ∧ ps.length = 10 + (if action then 11 else 0) + 4 * byteAt ps 9
    ∧ (action → byteAt ps 10 ≤ 63 ∧ byteAt ps 11 ≤ 3 ∧ byteAt ps 12 ≤ 1)

/-- The parameter block of a host command passes the parameter step (R196), by its rule and the lengths of the
command code table. Other rows have no block. -/
def Instr.blockOk (i : Instr) : Bool :=
  match i with
  | .join _ _ ps => ps.length = 4 ∧ byteAt ps 0 % 4 ≠ 0
      ∧ (byteAt ps 0 / 2 % 2 = 1 → 1 ≤ byteAt ps 1 ∧ byteAt ps 1 ≤ 16 ∧ byteAt ps 3 ≤ 15)  -- R148
  | .setService _ _ ps => ps.length = 2 ∧ byteAt ps 1 ≤ 15  -- R150
  | .leaveDrain _ _ ps => ps.length = 2 ∧ (byteAt ps 0 = 0 ∨ byteAt ps 0 = 1 ∧ byteAt ps 1 ≤ 1)  -- R151
  | .leaveNow _ _ ps => ps.length = 2 ∧ (byteAt ps 0 = 0 ∨ byteAt ps 0 = 1 ∧ byteAt ps 1 ≤ 1)  -- R151
  | .portStatus _ _ ps => ps.length = 1 ∧ byteAt ps 0 ≤ 3  -- R161
  | .claimManager _ _ ps => ps.length = 0  -- R159
  | .releaseManager _ _ ps => ps.length = 0  -- R160
  | .submit _ _ ps => submitBlock ps
  | .cancel _ _ ps => ps.length = 2  -- R41
  | .reap _ _ ps => ps.length = 2  -- R102
  | .chainReset _ _ ps => ps.length = 1 ∧ byteAt ps 0 ≠ 0  -- R40
  | .accept _ _ ps => ps.length = 2  -- R54
  | .decline _ _ ps => ps.length = 2  -- R54
  | .renew _ _ ps => ps.length = 4  -- R77
  | .returnJob _ _ ps => ps.length = 3 ∧ byteAt ps 2 ≤ 1  -- R78
  | .complete _ _ ps => 5 ≤ ps.length ∧ byteAt ps 2 ≤ 2 ∧ byteAt ps 4 ≤ 4 ∧ ps.length = 5 + 4 * byteAt ps 4  -- R80
  | .flagRead _ _ ps => ps.length = 1 ∧ byteAt ps 0 ≤ 63  -- R115
  | .flagCombine _ _ ps => ps.length = 16 ∧ byteAt ps 0 ≤ 63 ∧ byteAt ps 1 ≤ 3 ∧ byteAt ps 2 ≤ 1
      ∧ byteAt ps 3 ≤ 1  -- R117
  | .watchSet _ _ ps => ps.length = 10 ∧ byteAt ps 0 ≤ 63 ∧ byteAt ps 1 ≤ 1  -- R122
  | .watchClear _ _ ps => ps.length = 1 ∧ byteAt ps 0 ≤ 15  -- R126
  | .fetch _ _ ps => ps.length = 1 ∧ 1 ≤ byteAt ps 0 ∧ byteAt ps 0 ≤ 8  -- R133
  | .query _ _ ps => ps.length = 2  -- R165
  | .find _ _ ps => ps.length = 7 ∧ byteAt ps 0 ≤ 1 ∧ 1 ≤ byteAt ps 1 ∧ byteAt ps 1 ≤ 31
      ∧ (byteAt ps 2 ≤ 7 ∨ byteAt ps 2 = 0xFF)  -- R168
  | .cancelMatch _ _ ps => ps.length = 6 ∧ byteAt ps 0 ≤ 1 ∧ (byteAt ps 1 ≤ 7 ∨ byteAt ps 1 = 0xFF)  -- R170
  | .readCounts _ _ ps => ps.length = 0  -- R174
  | .hold _ _ ps => ps.length = 0  -- R182
  | .resume _ _ ps => ps.length = 0  -- R182
  | .pauseClass _ _ ps => ps.length = 1 ∧ byteAt ps 0 ≤ 7  -- R183
  | .unpauseClass _ _ ps => ps.length = 1 ∧ byteAt ps 0 ≤ 7  -- R183
  | .setClassPolicy _ _ ps => ps.length = 8 ∧ byteAt ps 0 ≤ 7 ∧ 1 ≤ byteAt ps 1 ∧ 1 ≤ byteAt ps 2
      ∧ byteAt ps 2 ≤ 7 ∧ byteAt ps 3 ≤ 15 ∧ 1 ≤ byteAt ps 4 + byteAt ps 5  -- R181
  | .setTickDivisor _ _ ps => ps.length = 2 ∧ 1 ≤ byteAt ps 0 + byteAt ps 1  -- R179
  | .setQuota _ _ ps => ps.length = 3 ∧ byteAt ps 0 ≤ 3 ∧ byteAt ps 1 + 256 * byteAt ps 2 ≤ 256  -- R184
  | .setOrphanPolicy _ _ ps => ps.length = 1 ∧ byteAt ps 0 ≤ 1  -- R185
  | .evict p _ ps => ps.length = 1 ∧ byteAt ps 0 ≤ 3 ∧ byteAt ps 0 ≠ p.val  -- R157
  | .purge _ _ ps => ps.length = 1  -- R17
  | .clearAll _ _ ps => ps.length = 0  -- R186
  | _ => true

/-- The port states that admit the command (R147's table). LEAVE is admitted in LEAVING with mode NOW alone. -/
def Instr.admittedIn (i : Instr) : List PortState :=
  match i with
  | .join .. => [.idle]
  | .setService .. => [.joined]
  | .leaveDrain .. => [.joined]
  | .leaveNow .. => [.joined, .leaving]
  | .portStatus .. => [.idle, .joined, .leaving]
  | .claimManager .. => [.joined]
  | .releaseManager .. => [.joined]
  | .submit .. => [.joined]
  | .watchSet .. => [.joined]
  | .fetch .. => [.idle, .joined, .leaving]
  | .readCounts .. => [.idle, .joined, .leaving]
  | _ => [.joined, .leaving]

end Sys2Proof
end

