-- ==== Sys2Proof/WellFormed.lean ====
section
/-! DEFINITION. Which commands are well formed: the transactions the rows speak of can end on the link. -/

namespace Sys2Proof

/-- The bytes of a COMMAND_FRAME_BAD row are one whole byte at least, are no response transaction, and fail
the frame step (R189, R190). -/
def badFrameRow (bytes : List Byte) : Bool :=
  bytes ≠ [] && bytes.head? ≠ some kindResponse && (checkFrame bytes).isNone

/-- The bytes of a row about a good frame pass the frame step (R190). -/
def goodFrameRow (bytes : List Byte) : Bool := (checkFrame bytes).isSome

/-- The bytes of a BAD_COMMAND row are a good frame whose code is in no row of the command code table
(R196). -/
def badCommandRow (bytes : List Byte) : Bool :=
  match checkFrame bytes with
  | some f => (commandOf 0 f).isNone
  | none => false

/-- The parameter bytes of a good frame number at most 64 (R190). -/
def paramsFit (ps : List Byte) : Bool := ps.length ≤ Config.maxParams

/-- A command is well formed when the transaction it stands for is the one its row names. -/
def Instr.wellFormed (i : Instr) : Bool :=
  match i with
  | .commandFrameBad _ bytes => badFrameRow bytes
  | .retransmission _ bytes => goodFrameRow bytes
  | .overrun _ bytes => bytes ≠ [] && bytes.head? ≠ some kindResponse
  | .badCommand _ bytes => badCommandRow bytes
  | .goodFrameOnDownPort _ bytes => goodFrameRow bytes
  | .leaveDrain _ _ ps => paramsFit ps && ps.head? ≠ some 1
  | .leaveNow _ _ ps => paramsFit ps && ps.head? = some 1
  | .join _ _ ps => paramsFit ps
  | .setService _ _ ps => paramsFit ps
  | .portStatus _ _ ps => paramsFit ps
  | .claimManager _ _ ps => paramsFit ps
  | .releaseManager _ _ ps => paramsFit ps
  | .submit _ _ ps => paramsFit ps
  | .cancel _ _ ps => paramsFit ps
  | .reap _ _ ps => paramsFit ps
  | .chainReset _ _ ps => paramsFit ps
  | .accept _ _ ps => paramsFit ps
  | .decline _ _ ps => paramsFit ps
  | .renew _ _ ps => paramsFit ps
  | .returnJob _ _ ps => paramsFit ps
  | .complete _ _ ps => paramsFit ps
  | .flagRead _ _ ps => paramsFit ps
  | .flagCombine _ _ ps => paramsFit ps
  | .watchSet _ _ ps => paramsFit ps
  | .watchClear _ _ ps => paramsFit ps
  | .fetch _ _ ps => paramsFit ps
  | .query _ _ ps => paramsFit ps
  | .find _ _ ps => paramsFit ps
  | .cancelMatch _ _ ps => paramsFit ps
  | .readCounts _ _ ps => paramsFit ps
  | .hold _ _ ps => paramsFit ps
  | .resume _ _ ps => paramsFit ps
  | .pauseClass _ _ ps => paramsFit ps
  | .unpauseClass _ _ ps => paramsFit ps
  | .setClassPolicy _ _ ps => paramsFit ps
  | .setTickDivisor _ _ ps => paramsFit ps
  | .setQuota _ _ ps => paramsFit ps
  | .setOrphanPolicy _ _ ps => paramsFit ps
  | .evict _ _ ps => paramsFit ps
  | .purge _ _ ps => paramsFit ps
  | .clearAll _ _ ps => paramsFit ps
  | .responseRead _ _ => true
  | .resetNAssert => true
  | .resetNRelease => true
  | .prstNAssert _ => true
  | .prstNDeassert _ => true
  | .tick => true
  | .offerWindowExpiry _ => true
  | .leaseExpiry _ => true
  | .agePromotion _ => true
  | .offer => true
  | .scanVisit _ => true
  | .departureOfferWithdrawal _ => true
  | .departureReclaim _ => true
  | .orphanHandling _ => true
  | .departureWatchRelease _ => true
  | .departureNoticeClear _ => true
  | .departureScanAbandon _ => true

end Sys2Proof
end

