-- ==== Sys2Proof/Certificates/Slice0/Obligations.lean ====
section
/-! DEFINITION. The statements for the provers, by chapter of the spec. A taken command's state is
`State.received` and its response is written by `State.answer` (Safety.lean, Machine/Ops.lean);
`TakenCommandChangesOnlyItsPort` says what the two together do. -/

open Sys2Proof Sys2Proof.Machine

/-! ### The queue of commands, and resets -/

/-- Step takes the command at the front of the queue, with the queue's rest. -/
def Obligations.StepRunsTheFrontCommand : Prop :=
  ∀ (c : Instr) (s : State) (rest : List Instr), s.pending = c :: rest →
    step s = exec c { s with pending := rest }

/-- TICK (R177, R178, R29): the time base advances by one, running deadlines come one tick nearer, a job's
promotion instant becomes due exactly where R29 puts one (a QUEUED job, an age step that is not 0, now minus queued
since a positive multiple of it, an urgency below the ceiling), and nothing else changes. On an empty queue one
REFCLK period passes, and the tick comes at the divisor (that an empty queue stands for a REFCLK period is the
model's choice, log entry 5). The due instants are counted by the model (log entry 4). -/
def Obligations.TickAdvancesTheTimeBase : Prop :=
  ∀ s : State, s.inReset = false → ∃ t, exec .tick s = .next t
    ∧ (s.pending = [] →
      step s = .next (if s.divisor ≤ s.prescaler + 1 then t else { s with prescaler := s.prescaler + 1 }))
    ∧ t.timeBase = s.timeBase + 1 ∧ t.prescaler = 0
    ∧ (∀ d : Word, 1 ≤ (d - s.timeBase).toNat → (d - s.timeBase).toNat ≤ 65535 → t.ticksTo d = s.ticksTo d - 1)
    ∧ (∀ i : SlotId,
      let row := s.policyOf (s.job i).cls
      let instant := (s.slot i).state = .queued ∧ row.ageStep ≠ 0 ∧ (s.job i).urgency < row.ageCeiling
        ∧ ∃ since : Word, (s.job i).queuedSince = some since
          ∧ ∃ k : Nat, 1 ≤ k ∧ (t.timeBase - since).toNat = k * row.ageStep
      (instant → t.slot i = { s.slot i with promoDue := (s.slot i).promoDue + 1 })
      ∧ (¬ instant → t.slot i = s.slot i))
    ∧ t = { s with timeBase := t.timeBase, prescaler := t.prescaler, slots := t.slots }

/-- What `State.reset` and RESET_N_ASSERT leave (R187 with R18, R43, R69, R92, R128, R143, R144, R175, R176,
R180, R195); `State.reset` meets the laws that every step keeps. The pin levels and the values of cleared fields
are the model's (log entries 6 and 17). That RESET_N_ASSERT keeps abandoned, and sets it for a response read in
progress, is the model's choice (log entry 14). Every attention output is released (R132, R143). -/
def Obligations.ResetLeavesPowerOnValues : Prop :=
  State.reset.atPowerOn ∧ (State.reset.queuesFit ∧ State.reset.claimLaw)
    ∧ (∀ p : Port, State.reset.attention p = false) ∧
    ∀ s : State, ∃ t, exec .resetNAssert s = .next t ∧ t.atPowerOn ∧ t.inReset = true
      ∧ (∀ p : Port, t.attention p = false)
      ∧ (∀ p : Port, (t.port p).prst = (s.port p).prst
        ∧ (t.port p).abandoned = ((s.port p).abandoned || (s.port p).reading.isSome))
      ∧ t.pending = s.pending

/-- RESET_N_RELEASE and PRST_N_DEASSERT (R187, R145): a DOWN port whose PRST_n is deasserted enters IDLE with its link
cleared, and nothing else changes. -/
def Obligations.PortsLeaveDownForIdle : Prop :=
  (∀ s : State, s.inReset = true → ∃ t, exec .resetNRelease s = .next t
    ∧ (∀ p : Port, t.port p =
        if (s.port p).state = .down ∧ (s.port p).prst = false then
          { s.port p with state := .idle, link := Link.cleared }
        else s.port p)
    ∧ t = { s with inReset := false, ports := t.ports })
  ∧ ∀ (s : State) (p : Port), s.inReset = false → (s.port p).prst = true →
    exec (.prstNDeassert p) s = .next (s.modPort p fun r =>
      if r.state = .down then { r with prst := false, state := .idle, link := Link.cleared }
      else { r with prst := false })

/-- PRST_N_ASSERT by the port's state (R145, R146, R154). On an IDLE port the link is cleared, the queue emptied,
every mark owed to the port discarded (R141; marks owed to other ports, and job fields, stay, and RETIRING slots
left without a mark enter FREE), the cursor set to 0, and the port DOWN. In a session a forced departure
begins with the device orphan policy, the link is cleared and the claim, if held, dropped, with its notices
(R160; JoinedPortsAreNotified). On a port with a departure in progress the link is cleared and the departure goes on.
In each case the answer of an EVICT that the port issued is made no more (R155, R157), and other ports are touched
in no other way. A transaction in progress on the port is abandoned, and the row that ends it has no effect but that
end, whatever its bytes: a command transaction of which the bytes `cut` have been shifted in, or a response read,
which ends (R189, R200; the fields abandoned, pdo and reading are the model's, log entry 14). -/
def Obligations.PortResetByPortState : Prop :=
  (∀ (s : State) (p : Port) (cut : Option (List Byte)), s.inReset = false → (s.port p).prst = false →
    let asserted : PortRec :=
      { s.port p with
        prst := true, link := Link.cleared, reading := none
        abandoned := cut.isSome || (s.port p).reading.isSome || (s.port p).abandoned
        pdo := match cut with
          | some bytes => if (s.port p).reading.isSome || (s.port p).abandoned then (s.port p).pdo else s.driven p bytes
          | none => (s.port p).pdo }
    let voided (x : Port) : Option Departure :=
      (s.port x).departure.map fun d => { d with answer := if d.answer = some p then none else d.answer }
    ((s.port p).departure = none → (s.port p).state = .idle → ∃ t, exec (.prstNAssert ⟨p, cut⟩) s = .next t
      ∧ t.port p = { asserted with queue := [], notices := NoticeSet.clear, cursor := 0, state := .down }
      ∧ ((∀ k : WatchId, (s.watch k).owes p = false) → t.owed p = false)
      ∧ (∀ x : Port, x ≠ p → t.port x = { s.port x with departure := voided x })
      ∧ s.marksDiscarded t p
      ∧ t = { s with ports := t.ports, slots := t.slots, chains := t.chains, freeList := t.freeList })
    ∧ ((s.port p).departure = none → ((s.port p).state = .joined ∨ (s.port p).state = .leaving) →
      let d := if s.manager = some p then s.dropClaim else s
      ∃ t, exec (.prstNAssert ⟨p, cut⟩) s = .next t
        ∧ t.port p =
          { asserted with
            queue := (d.port p).queue, notices := (d.port p).notices, state := .leaving
            departure := some ⟨.withdraw, .portReset, s.orphanPolicy, true, none, DepCounts.zero⟩ }
        ∧ (∀ x : Port, x ≠ p → t.port x = { d.port x with departure := voided x })
        ∧ t.manager ≠ some p ∧ (s.manager = some p → t.hold = false)
        ∧ (s.manager ≠ some p → t.manager = s.manager ∧ t.hold = s.hold)
        ∧ t = { s with ports := t.ports, manager := d.manager, hold := d.hold })
    ∧ (∀ d : Departure, (s.port p).departure = some d → ∃ t, exec (.prstNAssert ⟨p, cut⟩) s = .next t
      ∧ t.port p =
        { asserted with
          departure := some { d with prstSeen := true, answer := if d.answer = some p then none else d.answer } }
      ∧ (∀ x : Port, x ≠ p → t.port x = { s.port x with departure := voided x })
      ∧ t = { s with ports := t.ports }))
  ∧ ∀ (s : State) (p : Port), (s.port p).abandoned = true →
    (∀ i : Instr, i.transactionPort = some p →
      exec i s = .next (s.modPort p fun r => { r with abandoned := false }))
    ∧ ∀ n : Nat, exec (.responseRead p (.clocks n)) s = .next s

/-! ### The host link -/

/-- The frame step passes exactly the bytes that a frame of at most 64 parameter bytes encodes to, and a command
frame decodes to the command it was encoded from, for every well-formed host command (R190, R191, R197). Which
row a LEAVE frame belongs to is the model's choice (log entry 8). -/
def Obligations.CommandFramesRoundTrip : Prop :=
  (∀ (bytes : List Byte) (f : Frame),
    checkFrame bytes = some f ↔ bytes = frameBytes f ∧ f.params.length ≤ 64)
  ∧ ∀ (i : Instr) (p : Port) (f : Frame), i.wellFormed = true → i.frame = some (p, f) →
    decodeCommand p (frameBytes f) = some i

/-- R191: the register starts at 0; each byte is combined by exclusive-OR; eight left shifts follow, each combining
0x07 when the bit shifted out is 1; the CRC-8 of the nine characters is 0xF4; and it closes every
response frame. -/
def Obligations.CrcIsComputedByShifts : Prop :=
  crc8 [] = 0
    ∧ (∀ (bs : List Byte) (b : Byte), crc8 (bs ++ [b]) = Nat.repeat crcBit 8 (crc8 bs ^^^ b))
    ∧ (∀ r : Byte, crcBit r = if r.getLsbD 7 then (r <<< 1) ^^^ 0x07 else r <<< 1)
    ∧ crc8 [0x31, 0x32, 0x33, 0x34, 0x35, 0x36, 0x37, 0x38, 0x39] = 0xF4
    ∧ ∀ (s : State) (p : Port), ∃ head, s.responseFrame p = head ++ [crc8 head]
      ∧ head[3]? = some (s.flagsByte p)

/-- A frame handed to the link by its bytes and the host command it carries have one effect (R190, R192, R193).
That a row carries raw parameter bytes is the model's choice (log entry 8). -/
def Obligations.HostCommandIsItsFrame : Prop :=
  ∀ (s : State) (i : Instr) (p : Port) (f : Frame), i.frame = some (p, f) → f.params.length ≤ 64 →
    exec i s = .next (s.transaction p (frameBytes f))

/-- What the taking of a command and its response do to the port, and that they touch nothing else (R192, R65,
R189). The field pdo is the model's (log entry 14). -/
def Obligations.TakenCommandChangesOnlyItsPort : Prop :=
  ∀ (s : State) (p : Port) (q : Seq) (ps : List Byte) (r : Reply),
    (s.received p q ps).answer p r = s.modPort p fun rec =>
      { rec with
        pdo := List.replicate (5 + ps.length) 0xFF
        link := ⟨some q, some ⟨q, r.status, r.data⟩, some ⟨q, r.status, r.data⟩, false, rec.link.overrun⟩
        missed := 0
        stalled := false }

/-- COMMAND_FRAME_BAD and OVERRUN (R190, R193): with no command in flight a bad frame loads the response buffer
with BAD_FRAME and the sequence field received; with one in flight any frame, good or bad, is discarded and sets
the overrun flag; nothing else changes. The field pdo is the model's (log entry 14). -/
def Obligations.BadAndOverrunFrames : Prop :=
  ∀ (s : State) (p : Port) (bytes : List Byte), s.inReset = false → (s.port p).abandoned = false →
    (s.port p).reading = none →
    ((s.port p).link.inFlight = false → (Instr.commandFrameBad p bytes).wellFormed = true →
      exec (.commandFrameBad p bytes) s = .next (s.modPort p fun r =>
        { r with
          pdo := List.replicate bytes.length 0xFF
          link := { r.link with buffer := some ⟨badFrameSeq bytes, .badFrame, []⟩ } }))
    ∧ ((s.port p).link.inFlight = true → (Instr.overrun p bytes).wellFormed = true →
      exec (.overrun p bytes) s = .next (s.modPort p fun r =>
        { r with pdo := List.replicate bytes.length 0xFF, link := { r.link with overrun := true } }))

/-- RETRANSMISSION, GOOD_FRAME_ON_DOWN_PORT and BAD_COMMAND (R192, R196), with no command in flight: the cached
response is copied, a DOWN port answers WRONG_STATE, an unknown code is taken and refused BAD_COMMAND. The field
pdo is the model's (log entry 14). -/
def Obligations.GoodFrameMeetsTheLinkState : Prop :=
  ∀ (s : State) (p : Port) (bytes : List Byte) (f : Frame), s.inReset = false → (s.port p).abandoned = false →
    (s.port p).reading = none → (s.port p).link.inFlight = false → checkFrame bytes = some f →
    ((s.port p).state ≠ .down → (s.port p).link.lastSeq = some f.seq →
      exec (.retransmission p bytes) s = .next (s.modPort p fun r =>
        { r with pdo := List.replicate bytes.length 0xFF, link := { r.link with buffer := r.link.cached } }))
    ∧ ((s.port p).state = .down →
      exec (.goodFrameOnDownPort p bytes) s = .next (s.modPort p fun r =>
        { r with
          pdo := List.replicate bytes.length 0xFF
          link := { r.link with buffer := some ⟨f.seq, .wrongState, []⟩ } }))
    ∧ ((s.port p).state ≠ .down → (s.port p).link.lastSeq ≠ some f.seq → commandOf p f = none →
      exec (.badCommand p bytes) s = .next ((s.received p f.seq f.params).answer p ⟨.badCommand, []⟩))

/-- RESPONSE_READ (R194, R189): the frame that the part drives, field by field with the status codes of R196, by the
state of the port's link when the read begins, with the flags byte as it stands when the read reaches it; a read
that began NOT_READY ends so; only a READY read that reported the overrun clears it. A read taken whole, and one
whose beginning, bytes and end are taken apart with other events between them. A transaction row on a port with a
read in progress comes after that read's end (the fields pdo and reading, and the parts, are the model's, log entry
14). -/
def Obligations.ResponseReadReturnsTheBuffer : Prop :=
  let code (st : Status) : Byte := match st with
    | .ok => 0 | .badFrame => 1 | .badCommand => 2 | .badParam => 3 | .wrongState => 4 | .notPermitted => 5
    | .notManager => 6 | .managerTaken => 7 | .stale => 8 | .notOwner => 9 | .jobState => 10 | .leaseLost => 11
    | .storeFull => 12 | .quota => 13 | .chainFull => 14 | .chainClass => 15 | .chainBroken => 16
    | .watchFull => 17 | .holdRequired => 18 | .interrupted => 19
  let frame (marker : Byte) (q : Seq) (st : Status) (flags : Byte) (data : List Byte) : List Byte :=
    let head := [marker, q.zeroExtend 8, code st, flags, BitVec.ofNat 8 data.length,
      BitVec.ofNat 8 (data.length / 256)] ++ data
    head ++ [crc8 head]
  let driven (out : List Byte) (n : Nat) : List Byte :=
    0xFF :: (out.take n ++ List.replicate (n - out.length) 0xFF)
  ∀ (s : State) (p : Port), s.inReset = false →
    let r := s.port p
    let flags : Byte := (if r.queue = [] then 0 else 1) ||| (if r.link.overrun then 2 else 0)
      ||| (if s.owed p then 4 else 0)
    (∀ n : Nat, r.abandoned = false → r.reading = none →
      let out := if r.link.inFlight then frame 0x96 (r.link.lastSeq.getD 0) .ok flags []
        else match r.link.buffer with
          | some b => frame 0xA5 b.seq b.status flags b.data
          | none => frame 0xA5 0 .wrongState flags []
      exec (.responseRead p (.whole n)) s = .next (s.modPort p fun r =>
        { r with
          pdo := driven out n
          link := { r.link with overrun := r.link.overrun && (r.link.inFlight || decide (n < 4)) } }))
    ∧ (r.reading = none → exec (.responseRead p .begins) s = .next (s.modPort p fun r =>
        { r with
          abandoned := false, pdo := [0xFF]
          reading := some (if r.link.inFlight then ⟨false, r.link.lastSeq.getD 0, .ok, [], none, 0⟩
            else match r.link.buffer with
              | some b => ⟨true, b.seq, b.status, b.data, none, 0⟩
              | none => ⟨true, 0, .wrongState, [], none, 0⟩) }))
    ∧ (∀ rd : Reading, r.abandoned = false → r.reading = some rd →
      (∀ n : Nat,
        let formed := if rd.clocked + n < 4 then rd.flags else some (rd.flags.getD flags)
        exec (.responseRead p (.clocks n)) s = .next (s.modPort p fun r =>
          { r with
            pdo := driven (frame (if rd.ready then 0xA5 else 0x96) rd.seq rd.status (formed.getD 0) rd.data)
              (rd.clocked + n)
            reading := some { rd with clocked := rd.clocked + n, flags := formed } }))
      ∧ exec (.responseRead p .ends) s = .next (s.modPort p fun r =>
        { r with
          reading := none
          link := { r.link with
            overrun := r.link.overrun && !(rd.ready && (rd.flags.getD 0).getLsbD 1) } }))
    ∧ (r.abandoned = false → r.reading = none →
      exec (.responseRead p .ends) s = .next s ∧ ∀ n : Nat, exec (.responseRead p (.clocks n)) s = .next s)
    ∧ (r.abandoned = false → ∃ t, exec (.responseRead p .ends) s = .next t
      ∧ ∀ i : Instr, i.transactionPort = some p ∨ i = .responseRead p .begins → exec i s = exec i t)

/-- The parameter blocks of R197, R198 and of the commands' own rules read back as the values laid out in them: every
block with a parameter, and every named value. -/
def Obligations.ParameterBlocksReadBack : Prop :=
  (∀ (r : Byte) (n f : Nat) (m : Byte), r.getLsbD 1 = true → 1 ≤ n → n ≤ 16 → f ≤ 15 →
      parseJoin ([r] ++ num1 n ++ [m] ++ num1 f) = some ⟨⟨r.getLsbD 0, true⟩, n, m, f⟩)
    ∧ (∀ r a b c : Byte, r.getLsbD 0 = true → r.getLsbD 1 = false →
        parseJoin [r, a, b, c] = some ⟨⟨true, false⟩, 0, 0, 0⟩)
    ∧ (∀ (m : Byte) (f : Nat), f ≤ 15 → parseService ([m] ++ num1 f) = some (m, f))
    ∧ ((∀ b : Byte, parseLeave [0, b] = some .drain) ∧ parseLeave [1, 0] = some (.now .drop)
        ∧ parseLeave [1, 1] = some (.now .keep))
    ∧ (∀ h : Handle, parseHandle [BitVec.ofNat 8 h.slot.val, h.gen] = some h)
    ∧ (∀ (h : Handle) (n : Nat), n < 65536 → parseRenew (handleBytes h ++ num2 n) = some (h, n))
    ∧ (∀ (h : Handle) (b : Bool), parseReturn (handleBytes h ++ yesNo b) = some (h, b))
    ∧ (∀ (o : Byte) (st : FinishStatus), (o, st) ∈ [(0, .success), (1, .failed), (2, .cancelled)] →
        ∀ (h : Handle) (u : Byte) (ws : List Word), ws.length ≤ 4 →
        parseComplete (handleBytes h ++ [o, u] ++ num1 ws.length ++ ws.flatMap wordBytes) = some ⟨h, st, u, ws⟩)
    ∧ (∀ (b : Byte) (fn : CombineFn), (b, fn) ∈ [(0, .replace), (1, .and), (2, .or), (3, .xor)] →
        (∀ (f : FlagId) (o m c : Word) (l e : Bool),
          parseCombine (num1 f.val ++ [b] ++ yesNo l ++ yesNo e ++ wordBytes o ++ wordBytes m ++ wordBytes c)
            = some ⟨f, fn, l, e, o, m, c⟩)
        ∧ ∀ (w : Byte) (wh : When), (w, wh) ∈ [(0, .successOnly), (1, .anyFinish)] →
          ∀ (c : ClassId) (u l a : Nat) (ch : Byte) (t : BitVec 16) (f : FlagId) (o m : Word) (r st : Bool)
            (ws : List Word), u ≤ 15 → l < 65536 → a ≤ 7 → ws.length ≤ 8 →
          parseSubmit (num1 c.val ++ num1 u ++ [(if r then 1 else 0) ||| (if st then 2 else 0) ||| 4, ch]
              ++ num2 t.toNat ++ num2 l ++ num1 a ++ num1 ws.length ++ num1 f.val ++ [b, w] ++ wordBytes o
              ++ wordBytes m ++ ws.flatMap wordBytes)
            = some ⟨c, u, r, st, ch, t, l, a, some ⟨f, fn, wh, o, m⟩, ws⟩)
    ∧ (∀ (c : ClassId) (u l a : Nat) (ch : Byte) (t : BitVec 16) (r st : Bool) (ws : List Word),
        u ≤ 15 → l < 65536 → a ≤ 7 → ws.length ≤ 8 →
        parseSubmit (num1 c.val ++ num1 u ++ [(if r then 1 else 0) ||| (if st then 2 else 0), ch] ++ num2 t.toNat
            ++ num2 l ++ num1 a ++ num1 ws.length ++ ws.flatMap wordBytes)
          = some ⟨c, u, r, st, ch, t, l, a, none, ws⟩)
    ∧ (∀ (b : Byte) (md : WatchMode), (b, md) ∈ [(0, .once), (1, .persist)] → ∀ (f : FlagId) (c v : Word),
        parseWatch (num1 f.val ++ [b] ++ wordBytes c ++ wordBytes v) = some ⟨f, md, c, v⟩)
    ∧ (∀ n : Nat, 1 ≤ n → n ≤ 8 → parseFetch (num1 n) = some n)
    ∧ (∀ (b : Byte) (c : Option ClassId), (b = 0xFF ∧ c = none ∨ ∃ k : ClassId, [b] = num1 k.val ∧ c = some k) →
        ∀ (y : Bool) (t k : BitVec 16),
        (∀ ss : Byte, 1 ≤ ss.toNat → ss.toNat ≤ 31 →
          parseFind (yesNo y ++ [ss, b] ++ num2 t.toNat ++ num2 k.toNat)
            = some ⟨y, ⟨ss.getLsbD 0, ss.getLsbD 1, ss.getLsbD 2, ss.getLsbD 3, ss.getLsbD 4⟩, c, t, k⟩)
        ∧ parseCancelMatch (yesNo y ++ [b] ++ num2 t.toNat ++ num2 k.toNat) = some ⟨y, c, t, k⟩)
    ∧ (∀ (c : ClassId) (w a ce l st : Nat), 1 ≤ w → w ≤ 255 → 1 ≤ a → a ≤ 7 → ce ≤ 15 → 1 ≤ l → l < 65536 →
        st < 65536 → parsePolicy (num1 c.val ++ num1 w ++ num1 a ++ num1 ce ++ num2 l ++ num2 st)
          = some (c, ⟨w, l, a, st, ce⟩))
    ∧ (∀ d : Nat, 1 ≤ d → d ≤ 65535 → parseDivisor (num2 d) = some d)
    ∧ (∀ (p : Port) (n : Nat), n ≤ 256 → parseQuota (num1 p.val ++ num2 n) = some (p, n))
    ∧ (parseOrphan [0] = some .drop ∧ parseOrphan [1] = some .keep)
    ∧ (∀ c : Byte, c ≠ 0 → parseChainId [c] = some c)
    ∧ (∀ i : SlotId, parseSlot (num1 i.val) = some i)
    ∧ (∀ (n : Nat) (k : Fin n), n ≤ 64 → parseFin n (num1 k.val) = some k)
    ∧ (∀ p x : Port, x ≠ p → parseEvict p (num1 x.val) = some x)

/-- The checks that a taken host command meets before its own (R147, R196): port state; then role or claim, CANCEL and
CANCEL_MATCH needing the producer role or the claim; then the parameter step, at which a block that its rule
or the command code table refuses (R21, R40, R54, R77, R78, R80, R115, R117, R122, R126, R133, R148, R150, R151, R157,
R161, R165, R168, R170, R179 to R185) is answered BAD_PARAM. A refused command changes nothing else. The
admission of LEAVE from a LEAVING port, and the claim step of RELEASE_MANAGER and PORT_STATUS, are deduced (log
entry 13). -/
def Obligations.PortStateAndRoleChecks : Prop :=
  ∀ (s : State) (i : Instr) (p : Port) (f : Frame), i.frame = some (p, f) → i.wellFormed = true →
    s.takes p f.seq f.params →
    (s.departing p = true ∨ (s.port p).state ∉ i.admittedIn →
      exec i s = .next ((s.received p f.seq f.params).answer p ⟨.wrongState, []⟩))
    ∧ (s.departing p = false → (s.port p).state ∈ i.admittedIn →
      (i.isManagerRow = true → s.manager ≠ some p →
        exec i s = .next ((s.received p f.seq f.params).answer p ⟨.notManager, []⟩))
      ∧ (i.isConsumerRow = true → (s.port p).roles.consumer = false →
        exec i s = .next ((s.received p f.seq f.params).answer p ⟨.notPermitted, []⟩))
      ∧ (i.isProducerRow = true → (s.port p).roles.producer = false →
        exec i s = .next ((s.received p f.seq f.params).answer p ⟨.notPermitted, []⟩))
      ∧ (i.isCancelRow = true → (s.port p).roles.producer = false → s.manager ≠ some p →
        exec i s = .next ((s.received p f.seq f.params).answer p ⟨.notPermitted, []⟩))
      ∧ (s.roleFits p i = true → i.blockOk = false →
        exec i s = .next ((s.received p f.seq f.params).answer p ⟨.badParam, []⟩)))

/-! ### Sessions (chapter 8) -/

/-- JOIN (R149): the response, the port record, and, when every live record agrees with its check code, the
port's removal from every live job's declined set; nothing else changes. The places of the response's bytes are
deduced (log entry 10), and that JOIN reads every live record (log entry 2). -/
def Obligations.JoinOpensTheSession : Prop :=
  ∀ (s : State) (p : Port) (q : Seq) (ps : List Byte) (j : JoinParams), s.takes p q ps →
    s.admits p [.idle] = true → parseJoin ps = some j →
    exec (.join p q ps) s = .next (((s.received p q ps).joinPort p j).answer p
        ⟨.ok, rolesByte j.roles ++ num1 j.credits ++ portByte s.manager ++ yesNo s.hold⟩)
    ∧ (s.liveFails = false → (s.received p q ps).joinPort p j =
        { (s.received p q ps).modPort p (fun r =>
            { r with
              roles := j.roles, credits := j.credits, mask := j.mask, floor := j.floor
              missed := 0, stalled := false, state := .joined }) with
          slots := mapV (fun sl =>
            if sl.state.live && sl.job.declined[p] then
              { sl with
                checkOk := true
                job := { sl.job with declined := sl.job.declined.set p false } }
            else sl) s.slots })

/-- SET_SERVICE (R150): from a JOINED consumer it replaces the mask and the floor and nothing else, and answers
the old and new values; the same values again change nothing; every other block is refused BAD_PARAM; other
ports are refused WRONG_STATE and NOT_PERMITTED. The places of the response's bytes are deduced (log entry 10). -/
def Obligations.SetServiceReplacesMaskAndFloor : Prop :=
  ∀ (s : State) (p : Port) (q : Seq) (ps : List Byte), s.takes p q ps →
    (s.admits p [.joined] = true → (s.port p).roles.consumer = true →
      (∀ m f : Byte, ps = [m, f] → f.toNat ≤ 15 →
        exec (.setService p q ps) s = .next (((s.received p q ps).modPort p fun r =>
          { r with mask := m, floor := f.toNat }).answer p
            ⟨.ok, [(s.port p).mask] ++ num1 (s.port p).floor ++ [m, f]⟩))
      ∧ ((∀ m f : Byte, ps = [m, f] → 15 < f.toNat) →
        exec (.setService p q ps) s = .next ((s.received p q ps).answer p ⟨.badParam, []⟩)))
    ∧ (s.admits p [.joined] = true → (s.port p).roles.consumer = false →
      exec (.setService p q ps) s = .next ((s.received p q ps).answer p ⟨.notPermitted, []⟩))
    ∧ (s.admits p [.joined] = false →
      exec (.setService p q ps) s = .next ((s.received p q ps).answer p ⟨.wrongState, []⟩))

/-- PORT_STATUS and READ_COUNTS (R161, R174) answer the values of their tables, read after the issuing port's
missed count is cleared (R65), and change nothing else. The places of the responses' bytes are deduced (log
entry 10). -/
def Obligations.StatusAndCountsAreRead : Prop :=
  ∀ (s : State) (p : Port) (q : Seq) (ps : List Byte), s.takes p q ps →
    s.admits p [.idle, .joined, .leaving] = true →
    (∀ x : Port, parseFin 4 ps = some x → (x = p ∨ s.manager = some p) →
      exec (.portStatus p q ps) s = .next ((s.received p q ps).answer p
        ⟨.ok,
          let u := s.received p q ps
          [((u.port x).state).code] ++ yesNo (u.port x).departure.isSome ++ rolesByte (u.port x).roles
            ++ num1 (u.port x).credits ++ [(u.port x).mask] ++ num1 (u.port x).floor
            ++ yesNo (s.manager == some x) ++ portByte s.manager
            ++ num1 ((s.offerSet x).length + (s.port x).workingSet.length) ++ num1 (s.offerSet x).length
            ++ num1 (s.port x).workingSet.length
            ++ (s.port x).workingSet.flatMap (fun i => handleBytes (s.handle i))
            ++ num1 (u.port x).missed ++ yesNo (u.port x).stalled
            ++ num1 (s.port x).queue.length ++ yesNo (s.owed x)
            ++ num2 (s.port x).quota ++ num2 (s.port x).quotaCount
            ++ num1 (s.watchesOf x).length ++ yesNo (s.port x).scan.isSome ++ num2 (s.port x).cursor⟩))
    ∧ (∀ x : Port, parseFin 4 ps = some x → x ≠ p → s.manager ≠ some p →
      exec (.portStatus p q ps) s = .next ((s.received p q ps).answer p ⟨.notManager, []⟩))
    ∧ (ps = [] → exec (.readCounts p q ps) s = .next ((s.received p q ps).answer p
        ⟨.ok,
          allClasses.flatMap (fun c => num2 (s.classQueue c).length)
            ++ allPorts.flatMap (fun x =>
              num1 ((s.offerSet x).length + (s.port x).workingSet.length) ++ num1 (s.port x).credits)
            ++ num2 (s.countState .free) ++ num2 (s.countState .done) ++ num2 (s.countState .retiring)
            ++ num2 (s.countState .quarantined)
            ++ num1 (allChains.countP fun e => (s.chain e).state == .isOpen)
            ++ num1 (allChains.countP fun e => (s.chain e).state == .broken)
            ++ num1 (allWatches.countP fun k => (s.watch k).state != .free)
            ++ yesNo s.hold ++ allClasses.flatMap (fun c => yesNo (s.isPaused c)) ++ wordBytes s.timeBase⟩))

/-- CLAIM_MANAGER and RELEASE_MANAGER (R159, R160): who holds the claim after the command, the notice passed to
every JOINED port, and the answers. The data of MANAGER_TAKEN and the places of the bytes are deduced (log
entries 12 and 10). -/
def Obligations.ManagerClaimIsGivenAndReleased : Prop :=
  ∀ (s : State) (p : Port) (q : Seq), s.takes p q [] → s.admits p [.joined] = true →
    (s.manager = none → exec (.claimManager p q []) s =
      .next (({ s.received p q [] with manager := some p }.notifyJoined (.managerChanged (some p))).answer p
        ⟨.ok, num1 p.val⟩))
    ∧ (s.manager = some p → exec (.claimManager p q []) s =
      .next ((s.received p q []).answer p ⟨.ok, num1 p.val⟩))
    ∧ (∀ m : Port, m ≠ p → s.manager = some m → exec (.claimManager p q []) s =
      .next ((s.received p q []).answer p ⟨.managerTaken, num1 m.val⟩))
    ∧ (s.manager = some p → exec (.releaseManager p q []) s =
      .next ((s.received p q []).dropClaim.answer p ⟨.ok, yesNo s.hold⟩))
    ∧ (s.manager ≠ some p → exec (.releaseManager p q []) s =
      .next ((s.received p q []).answer p ⟨.notManager, []⟩))

/-- A port notice for every JOINED port (R131, R136) joins the queue of each that has room and becomes its owed mark
elsewhere, and touches no other port. At the drop of the claim (R160) there is no manager, HOLD is off, and
every JOINED port with room for them receives HOLD_OFF, if HOLD was on, and then MANAGER_CHANGED none. -/
def Obligations.JoinedPortsAreNotified : Prop :=
  ∀ s : State,
    (∀ n : PortNotice, (∀ x : Port, (s.notifyJoined n).port x =
        if (s.port x).state = .joined then
          if (s.port x).queue.length < 32 ∧ s.owed x = false then
            { s.port x with queue := (s.port x).queue ++ [.portNotice n] }
          else { s.port x with notices := (s.port x).notices.add n }
        else s.port x)
      ∧ s.notifyJoined n = { s with ports := (s.notifyJoined n).ports })
    ∧ s.dropClaim.manager = none ∧ s.dropClaim.hold = false
    ∧ (∀ x : Port, (s.port x).state = .joined → (s.port x).queue.length ≤ 30 → s.owed x = false →
      s.dropClaim.port x =
        { s.port x with
          queue := (s.port x).queue
            ++ (if s.hold then [.portNotice .holdOff] else []) ++ [.portNotice (.managerChanged none)] })
    ∧ (∀ x : Port, (s.port x).state ≠ .joined → s.dropClaim.port x = s.port x)
    ∧ s.dropClaim = { s with manager := none, hold := false, ports := s.dropClaim.ports }

/-- LEAVE DRAIN (R152, R151, R59): the claim is dropped, the port is LEAVING, its offers are withdrawn in slot
order, the event closes with its drain check, and the response counts; afterwards the port is LEAVING or IDLE
and holds no claim. The orphan choice byte is ignored. The places of the response's bytes are deduced (log entry
10). -/
def Obligations.LeaveDrainStartsTheDrain : Prop :=
  ∀ (s : State) (p : Port) (q : Seq) (o : Byte), s.takes p q [0, o] → s.admits p [.joined] = true →
    let u := s.received p q [0, o]
    let a := (if s.manager = some p then u.dropClaim else u).modPort p fun r => { r with state := .leaving }
    let w := allSlots.foldl (withdrawOffer p true) (a, 0)
    exec (.leaveDrain p q [0, o]) s = .next (w.1.close.answer p
      ⟨.ok, num1 w.2 ++ num1 (w.1.port p).workingSet.length ++ num2 (w.1.produced p).length
        ++ (if (w.1.close.port p).state = .idle then [1, 1] else [0, 0])⟩)
    ∧ ((w.1.close.port p).state = .leaving ∨ (w.1.close.port p).state = .idle)
    ∧ w.1.close.manager ≠ some p

/-- The withdrawal of one offer of a sound record (R59, R28): the job is QUEUED again by its order key with queued since
now, its declined set, urgency and sequence kept; the port is told when it drains and its queue has room;
nothing else changes. -/
def Obligations.WithdrawnOfferIsRequeued : Prop :=
  ∀ (s : State) (p : Port) (i : SlotId) (n : Nat), (s.slot i).state = .offered → (s.job i).consumer = some p →
    (s.slot i).checkOk = true →
    let t := (s.writeSlot i fun sl =>
      { sl with
        state := .queued, promoDue := 0
        job := { sl.job with consumer := none, deadline := none, queuedSince := some s.timeBase } }).enterQueue i
    withdrawOffer p false (s, n) i = (t, n + 1)
    ∧ ((s.port p).state ≠ .down → s.room p = true →
      withdrawOffer p true (s, n) i = (t.enqueue p (.offerWithdrawn (s.handle i) .leaving), n + 1))

/-- LEAVE NOW and EVICT (R154, R156, R157): the departure begins at its first step with its orphan choice, the
port is LEAVING, a claim it holds is dropped, the command stays in flight, and no job, chain or flag changes. An
EVICT of the issuing port is refused BAD_PARAM, of a DOWN, IDLE or departing port WRONG_STATE. A LEAVE from a
LEAVING port is deduced (log entry 13). -/
def Obligations.ForcedDepartureBegins : Prop :=
  ∀ (s : State) (p : Port) (q : Seq) (ps : List Byte), s.takes p q ps →
    s.admits p [.joined, .leaving] = true →
    (∀ o : OrphanPolicy, ps = [1, o.code] → ∃ t, exec (.leaveNow p q ps) s = .next t
      ∧ (t.port p).state = .leaving
      ∧ (t.port p).departure = some ⟨.withdraw, .leaveNow, o, false, some p, DepCounts.zero⟩
      ∧ (t.port p).link.inFlight = true ∧ t.manager = (if s.manager = some p then none else s.manager)
      ∧ (s.manager = some p → t.hold = false)
      ∧ t.slots = s.slots ∧ t.chains = s.chains ∧ t.words = s.words ∧ t.watches = s.watches)
    ∧ (∀ x : Port, ps = num1 x.val → x ≠ p → s.manager = some p → s.admits x [.joined, .leaving] = true →
      ∃ t, exec (.evict p q ps) s = .next t
        ∧ (t.port x).state = .leaving
        ∧ (t.port x).departure = some ⟨.withdraw, .evict, s.orphanPolicy, false, some p, DepCounts.zero⟩
        ∧ (t.port p).link.inFlight = true ∧ t.manager = s.manager ∧ t.hold = s.hold
        ∧ t.slots = s.slots ∧ t.chains = s.chains ∧ t.words = s.words ∧ t.watches = s.watches)
    ∧ (s.manager = some p →
      (ps = num1 p.val → exec (.evict p q ps) s = .next ((s.received p q ps).answer p ⟨.badParam, []⟩))
      ∧ ∀ x : Port, ps = num1 x.val → x ≠ p → s.admits x [.joined, .leaving] = false →
        exec (.evict p q ps) s = .next ((s.received p q ps).answer p ⟨.wrongState, []⟩))

/-- The steps of a forced departure at the Dispatcher, the Lease Unit and the Job Store (R154 steps 3 to 5): each is
taken by its own event, hands on to the next step with the counts of R156, and ends with its event's close. The
Dispatcher withdraws the port's offers in slot order (R59, R71; WithdrawnOfferIsRequeued says what one withdrawal
does). The Lease Unit reclaims the jobs of the working set from its head (R90): a reclaimed job leaves the set,
reclaimed from names the port, and it is finished CANCELLED or EXPIRED or requeued (R83); a failing record is
quarantined. The Job Store acts on the produced jobs in slot order, then on the entries keyed to the port, then on
the QUARANTINED slots (R106): a DONE job is released; under DROP the others are discarded, their consumers told
(R107), and under KEEP orphaned (R108); OPEN entries are re-keyed to port none under KEEP, and others freed
(R109); the port is cleared from QUARANTINED slots (R16). The close of the event is as log entry 15 says. -/
def Obligations.DepartureStepsAtTheJobBlocks : Prop :=
  (∀ (s : State) (p : Port) (d : Departure), s.inReset = false → (s.port p).departure = some d →
    let handOn (t : State) (next : DepStep) (n : DepCounts) :=
      (t.modPort p fun r => { r with departure := some { d with next := next, counts := n } }).close
    (d.next = .withdraw →
      let w := allSlots.foldl (withdrawOffer p false) (s, 0)
      exec (.departureOfferWithdrawal p) s = .next
        (handOn (w.1.modPort p fun r => { r with missed := 0, stalled := false }) .reclaim
          { d.counts with withdrawn := w.2 }))
    ∧ (d.next = .reclaim →
      let r := (s.port p).workingSet.foldl (reclaimJob p) (s, d.counts)
      exec (.departureReclaim p) s = .next (handOn r.1 .orphans r.2))
    ∧ (d.next = .orphans →
      let r := allChains.foldl (orphanChain p d.orphan) (allSlots.foldl (orphanSlot p d.orphan) (s, d.counts))
      exec (.orphanHandling p) s = .next (handOn (allSlots.foldl (clearQuarantined p) r.1) .watches r.2)))
  ∧ (∀ (s : State) (p : Port) (i : SlotId) (n : DepCounts), (s.slot i).state = .active →
      (s.job i).consumer = some p →
      ((s.slot i).checkOk = false → reclaimJob p (s, n) i = (s.quarantine i, n))
      ∧ ((s.slot i).checkOk = true →
        let t := (s.modPort p fun r => { r with workingSet := r.workingSet.erase i }).writeJob i fun x =>
          { x with consumer := none, deadline := none, reclaimedFrom := some p }
        ((s.job i).cancelRequested = true →
          reclaimJob p (s, n) i = (t.finishJob i .cancelled, { n with cancelled := n.cancelled + 1 }))
        ∧ ((s.job i).cancelRequested = false → (s.job i).attempts = (s.job i).attemptLimit →
          reclaimJob p (s, n) i = (t.finishJob i .expired, { n with expired := n.expired + 1 }))
        ∧ ((s.job i).cancelRequested = false → (s.job i).attempts ≠ (s.job i).attemptLimit →
          let r := t.writeSlot i fun sl =>
            { sl with
              state := .queued, promoDue := 0
              job := { sl.job with consumer := none, deadline := none, queuedSince := some s.timeBase } }
          reclaimJob p (s, n) i =
            (r.modQueue (s.job i).cls (insertKey (r.ahead i) i), { n with requeued := n.requeued + 1 }))))
  ∧ (∀ (s : State) (p : Port) (o : OrphanPolicy) (i : SlotId) (n : DepCounts),
      let sl := s.slot i
      let t := (orphanSlot p o (s, n) i).1
      let c := (orphanSlot p o (s, n) i).2
      let cleared := { sl with
        state := .retiring, checkOk := true, promoDue := 0, job := Job.cleared
        producerMark := if sl.owesProducer p then none else sl.producerMark }
      let counted (x : Port) := if x = p then (s.port p).quotaCount - 1 else (s.port x).quotaCount
      (sl.job.producer ≠ some p ∨ sl.state.tested = false → t = s ∧ c = n)
      ∧ (sl.job.producer = some p → sl.state.tested = true → sl.checkOk = false → t = s.quarantine i ∧ c = n)
      ∧ (sl.job.producer = some p → sl.state = .done → sl.checkOk = true →
        t = (s.modPort p fun r => { r with quotaCount := r.quotaCount - 1 }).modSlot i (fun _ => cleared)
        ∧ c = { n with released := n.released + 1 })
      ∧ (sl.job.producer = some p → sl.state.live = true → sl.checkOk = true →
        (o = .keep →
          t = ((s.modPort p fun r => { r with quotaCount := r.quotaCount - 1 }).writeJob i fun j =>
            { j with report := false, producer := none })
          ∧ c = { n with orphaned := n.orphaned + 1 })
        ∧ (o = .drop →
          c = { n with discarded := n.discarded + 1 }
          ∧ (t.slot i).state = .retiring ∧ (t.slot i).gen = sl.gen ∧ (t.slot i).job = Job.cleared
          ∧ (t.slot i).producerMark = cleared.producerMark
          ∧ (∀ k : ClassId, t.classQueue k =
            if sl.state = .queued ∧ k = sl.job.cls then (s.classQueue k).erase i else s.classQueue k)
          ∧ (∀ e : ChainId, t.chain e =
            if s.inChain i = some e then { s.chain e with list := (s.chain e).list.erase i } else s.chain e)
          ∧ (∀ x : Port, (t.port x).quotaCount = counted x
            ∧ (t.port x).workingSet = if sl.state = .active ∧ sl.job.consumer = some x then
                (s.port x).workingSet.erase i else (s.port x).workingSet)
          ∧ (sl.state = .queued → t.slot i = cleared ∧ ∀ x : Port, (t.port x).queue = (s.port x).queue)
          ∧ (∀ (x : Port) (e : ConsumerNotice), sl.job.consumer = some x →
            sl.state = .offered ∧ e = .offerWithdrawn .dropped ∨ sl.state = .active ∧ e = .leaseLost .dropped →
            ((s.port x).state ≠ .down → s.room x = true →
              (t.port x).queue = (s.port x).queue ++ [e.event (s.handle i)])
            ∧ ((s.port x).state ≠ .down → s.room x = false →
              (t.port x).queue = (s.port x).queue ∧ (t.slot i).consumerMarks[x] = some e))
          ∧ (∀ j : SlotId, j ≠ i → t.slot j = s.slot j)
          ∧ t.words = s.words ∧ t.watches = s.watches ∧ t.freeList = s.freeList)))
  ∧ (∀ (s : State) (p : Port) (o : OrphanPolicy) (e : ChainId) (n : DepCounts),
      ((s.chain e).state ≠ .free → (s.chain e).owner = some p →
        (orphanChain p o (s, n) e).2 = { n with chains := n.chains + 1 }
        ∧ ((s.chain e).state = .isOpen → o = .keep →
          (orphanChain p o (s, n) e).1 = s.modChain e fun c => { c with owner := none })
        ∧ ((s.chain e).state = .broken ∨ o = .drop →
          (orphanChain p o (s, n) e).1 = s.modChain e fun _ => ChainEntry.cleared))
      ∧ ((s.chain e).state = .free ∨ (s.chain e).owner ≠ some p → orphanChain p o (s, n) e = (s, n)))
  ∧ ∀ (s : State) (p : Port) (i : SlotId), clearQuarantined p s i =
      if (s.slot i).state = .quarantined then
        s.modSlot i fun sl =>
          { sl with job := { sl.job with
              producer := if sl.job.producer = some p then none else sl.job.producer
              lostHolder := if sl.job.lostHolder = some p then none else sl.job.lostHolder } }
      else s

/-- The steps of a forced departure at the Flag Unit and the Notice Unit (R154 steps 6 and 7, R127, R141): the port's
watches are freed and its latch emptied; its queue is emptied, its marks are discarded, RETIRING slots left without
a mark enter FREE with the next generation in ascending order, and LEFT or EVICTED is queued. Marks owed to other
ports, and the fields of jobs, stay. -/
def Obligations.DepartureStepsAtFlagsAndNotices : Prop :=
  ∀ (s : State) (p : Port) (d : Departure), s.inReset = false → (s.port p).departure = some d →
    (d.next = .watches → ∃ t, exec (.departureWatchRelease p) s = .next t
      ∧ (∀ k : WatchId, t.watch k =
          if (s.watch k).state ≠ .free ∧ (s.watch k).owner = some p then Watch.cleared else s.watch k)
      ∧ t.port p = { s.port p with
          latch := none
          departure := some { d with
            next := .notices, counts := { d.counts with watches := (s.watchesOf p).length } } }
      ∧ (∀ x : Port, x ≠ p → t.port x = s.port x)
      ∧ t = { s with ports := t.ports, watches := t.watches })
    ∧ (d.next = .notices → ∃ t, exec (.departureNoticeClear p) s = .next t
      ∧ t.port p = { s.port p with
          queue := (match d.cause with
            | .leaveNow => [.portNotice .left]
            | .evict => [.portNotice .evicted]
            | .portReset => [])
          notices := NoticeSet.clear
          departure := some { d with next := .search } }
      ∧ ((∀ k : WatchId, (s.watch k).owes p = false) → t.owed p = false)
      ∧ (∀ x : Port, x ≠ p → t.port x = s.port x)
      ∧ s.marksDiscarded t p
      ∧ t = { s with ports := t.ports, slots := t.slots, chains := t.chains, freeList := t.freeList })

/-- The last step of a forced departure (R154 step 8, R155, R173, R195): the scan is abandoned, and its command, while
in flight, ends with WRONG_STATE and no data in the buffer and the retry cache; the record is cleared, the port
DOWN or IDLE, and the command that caused the departure is answered in the buffer and the retry cache of its port.
It carries the counts of R156 in their order, after the target's number for an EVICT (R157). The places and widths of
the response's bytes are deduced, and a scan is answered while its command is in flight (log entries 10, 19). That a
departure in which PRST_n was asserted ends with an empty queue is R155; that this holds for a CLEARED of R143 as well
is the model's choice (log entry 22). -/
def Obligations.DepartureEnds : Prop :=
  ∀ (s : State) (p : Port) (d : Departure), s.inReset = false → (s.port p).departure = some d →
    d.next = .search → ∃ t, exec (.departureScanAbandon p) s = .next t
      ∧ (let answered (x : Port) (st : Status) (data : List Byte) : Link :=
          { (s.port x).link with
            inFlight := false
            buffer := some ⟨(s.port x).link.lastSeq.getD 0, st, data⟩
            cached := some ⟨(s.port x).link.lastSeq.getD 0, st, data⟩ }
        let n := d.counts
        let data : List Byte := (match d.cause with
            | .evict => num1 p.val
            | .leaveNow => []
            | .portReset => [])
          ++ num1 n.withdrawn ++ num1 (n.requeued + n.cancelled + n.expired)
          ++ num1 n.requeued ++ num1 n.cancelled ++ num1 n.expired
          ++ num2 n.discarded ++ num2 n.orphaned ++ num2 n.released ++ num1 n.chains ++ num1 n.watches
        t.port p =
          { s.port p with
            departure := none, scan := none, cursor := 0, roles := Roles.absent, credits := 0, mask := 0, floor := 0
            state := if (s.port p).prst then .down else .idle
            queue := if d.prstSeen then [] else (s.port p).queue
            link :=
              if d.answer = some p then answered p .ok data
              else if (s.port p).scan.isSome ∧ (s.port p).link.inFlight then answered p .wrongState []
              else (s.port p).link }
        ∧ (∀ a : Port, d.answer = some a → a ≠ p →
          t.port a = { s.port a with link := answered a .ok data }))
      ∧ (∀ x : Port, x ≠ p → d.answer ≠ some x → t.port x = s.port x)
      ∧ t = { s with ports := t.ports }

/-! ### Putting jobs in and taking them out (chapters 1, 2 and 5) -/

/-- A SUBMIT that passes every check (R23, R8, R10, R25, R26, R32): the slot at the head of the free list
becomes the job with the fields submitted, the class policy's defaults for limits of 0, and the counter's
sequence; it is the last of its chain; it stands in its class queue by the order key; nothing else changes. The
places of the response's bytes are deduced (log entry 10). -/
def Obligations.SubmitMakesAQueuedJob : Prop :=
  ∀ (s : State) (p : Port) (q : Seq) (ps : List Byte) (a : SubmitParams) (c : ChainTarget) (i : SlotId)
    (rest : List SlotId),
    s.takes p q ps → s.admits p [.joined] = true → (s.port p).roles.producer = true → parseSubmit ps = some a →
    (s.port p).quotaCount < (s.port p).quota → s.chainTarget p a = .ok c → s.freeList = i :: rest →
    let t : State :=
      { (s.received p q ps).modPort p (fun r => { r with quotaCount := r.quotaCount + 1 }) with
        freeList := rest
        seqCounter := s.seqCounter + 1
        slots := s.slots.set i
          { gen := (s.slot i).gen, state := .queued, checkOk := true, promoDue := 0, producerMark := none
            consumerMarks := Vector.replicate 4 none
            job :=
              { producer := some p, cls := a.cls, baseUrgency := a.urgency, urgency := a.urgency, tag := a.tag
                chain := match c with
                  | .unchained => none
                  | .joins e => some (a.chainId, e)
                  | .creates e => some (a.chainId, e)
                report := a.report, action := a.action, payload := a.payload
                leaseLimit := if a.leaseLimit = 0 then (s.policyOf a.cls).defaultLease else a.leaseLimit
                attemptLimit := if a.attemptLimit = 0 then (s.policyOf a.cls).defaultAttempts else a.attemptLimit
                attempts := 0, qseq := s.seqCounter, queuedSince := some s.timeBase
                declined := Vector.replicate 4 false, consumer := none, deadline := none, reclaimedFrom := none
                cancelRequested := false, finish := none, userCode := none, result := none
                lostHolder := none } }
        chains := match c with
          | .unchained => s.chains
          | .joins e => s.chains.set e { s.chain e with list := (s.chain e).list ++ [i] }
          | .creates e => s.chains.set e
              { state := .isOpen, owner := some p, chainId := a.chainId, cls := a.cls, strict := a.strict
                list := [i], lastConsumer := none, breakRec := none, owed := none } }
    exec (.submit p q ps) s = .next ((t.modQueue a.cls (insertKey (t.ahead i) i)).answer p
      ⟨.ok, handleBytes ⟨i, (s.slot i).gen⟩⟩)

/-- The resource step of SUBMIT (R22 checks 1 to 5, R32): the quota, the chain named, and the free list, in order;
and which entry the job joins or creates. -/
def Obligations.SubmitMeetsItsResourceChecks : Prop :=
  ∀ (s : State) (p : Port) (q : Seq) (ps : List Byte) (a : SubmitParams),
    s.takes p q ps → s.admits p [.joined] = true → (s.port p).roles.producer = true → parseSubmit ps = some a →
    let refusedWith (st : Status) := exec (.submit p q ps) s = .next ((s.received p q ps).answer p ⟨st, []⟩)
    let keyed (e : ChainId) :=
      (s.chain e).state ≠ .free ∧ (s.chain e).owner = some p ∧ (s.chain e).chainId = a.chainId
    ((s.port p).quota ≤ (s.port p).quotaCount → refusedWith .quota)
    ∧ ((s.port p).quotaCount < (s.port p).quota →
      (a.chainId = 0 → s.chainTarget p a = .ok .unchained)
      ∧ (∀ e : ChainId, a.chainId ≠ 0 → keyed e → (∀ x : ChainId, x < e → ¬ keyed x) →
        ((s.chain e).state = .broken → refusedWith .chainBroken)
        ∧ ((s.chain e).state ≠ .broken → (s.chain e).cls ≠ a.cls → refusedWith .chainClass)
        ∧ ((s.chain e).state ≠ .broken → (s.chain e).cls = a.cls → s.chainTarget p a = .ok (.joins e)))
      ∧ (a.chainId ≠ 0 → (∀ e : ChainId, ¬ keyed e) →
        ((∀ e : ChainId, (s.chain e).state ≠ .free) → refusedWith .chainFull)
        ∧ ∀ e : ChainId, (s.chain e).state = .free → (∀ x : ChainId, x < e → (s.chain x).state ≠ .free) →
          s.chainTarget p a = .ok (.creates e))
      ∧ (∀ c : ChainTarget, s.chainTarget p a = .ok c → s.freeList = [] → refusedWith .storeFull))

/-- CANCEL (R41, R58, R86) by the job's state, from its producer or the manager, and NOT_OWNER from others. The
code of the outcome is a free value (log entry 9). -/
def Obligations.CancelActsByTheJobState : Prop :=
  ∀ (s : State) (p : Port) (q : Seq) (h : Handle), s.takes p q (handleBytes h) →
    s.admits p [.joined, .leaving] = true → ((s.port p).roles.producer = true ∨ s.manager = some p) →
    s.handleOk h = true → s.testFails h.slot = false →
    let i := h.slot
    let u := s.received p q (handleBytes h)
    let e := exec (.cancel p q (handleBytes h)) s
    ((s.slot i).state ≠ .quarantined → (s.job i).producer ≠ some p → s.manager ≠ some p →
      e = .next (u.answer p ⟨.notOwner, []⟩))
    ∧ ((s.job i).producer = some p ∨ s.manager = some p →
      ((s.slot i).state = .queued →
        e = .next ((u.finishJob i .cancelled).close.answer p ⟨.ok, [Config.outcomeCode .finished]⟩))
      ∧ (∀ c : Port, (s.slot i).state = .offered → (s.job i).consumer = some c →
        let t := (u.writeJob i fun j => { j with consumer := none, deadline := none }).notifyConsumer i c
          (.offerWithdrawn .cancelled)
        e = .next ((t.finishJob i .cancelled).close.answer p ⟨.ok, [Config.outcomeCode .finished]⟩))
      ∧ (∀ c : Port, (s.slot i).state = .active → (s.job i).consumer = some c → (s.job i).cancelRequested = false →
        e = .next (((u.writeJob i fun j => { j with cancelRequested := true }).notifyConsumer i c
          .cancelRequest).answer p ⟨.ok, [Config.outcomeCode .requested]⟩))
      ∧ ((s.slot i).state = .active → (s.job i).cancelRequested = true →
        e = .next (u.answer p ⟨.ok, [Config.outcomeCode .requested]⟩))
      ∧ ((s.slot i).state = .done ∨ (s.slot i).state = .quarantined → e = .next (u.answer p ⟨.jobState, []⟩)))

/-- REAP (R102, R103, R11): the DONE job of the requesting producer is reported and released, its owed JOB_DONE
discarded and its other marks kept; other jobs are refused. The places of the response's bytes are deduced (log
entry 10), and the close of the event (log entry 15). -/
def Obligations.ReapReleasesADoneJob : Prop :=
  ∀ (s : State) (p : Port) (q : Seq) (h : Handle), s.takes p q (handleBytes h) →
    s.admits p [.joined, .leaving] = true → (s.port p).roles.producer = true →
    s.handleOk h = true → s.testFails h.slot = false →
    let i := h.slot
    let j := s.job i
    let u := s.received p q (handleBytes h)
    let e := exec (.reap p q (handleBytes h)) s
    (∀ st : FinishStatus, j.producer = some p → (s.slot i).state = .done → j.finish = some st →
      let t := (u.modPort p fun r => { r with quotaCount := r.quotaCount - 1 }).modSlot i fun sl =>
        { sl with
          state := .retiring, checkOk := true, promoDue := 0, job := Job.cleared
          producerMark := match sl.producerMark with
            | some ⟨_, .jobDone _ _⟩ => none
            | m => m }
      e = .next (t.close.answer p
        ⟨.ok, handleBytes h ++ [st.code] ++ optByte j.userCode ++ num1 j.attempts ++ num1 j.attemptLimit
          ++ num1 (j.result.getD []).length ++ (j.result.getD []).flatMap wordBytes⟩))
    ∧ (j.producer ≠ some p → (s.slot i).state ≠ .quarantined → e = .next (u.answer p ⟨.notOwner, []⟩))
    ∧ (j.producer = some p → (s.slot i).state ≠ .done → e = .next (u.answer p ⟨.jobState, []⟩))

/-- CHAIN_RESET (R40): the issuing port's BROKEN entry for the id is freed with its owed mark, and what it held
is reported; an entry that is not BROKEN, or no entry, is refused JOB_STATE. The places of the bytes and the
values of cleared fields are the model's (log entries 10 and 17). -/
def Obligations.ChainResetFreesABrokenEntry : Prop :=
  ∀ (s : State) (p : Port) (q : Seq) (id : Byte), id ≠ 0 → s.takes p q [id] →
    s.admits p [.joined, .leaving] = true → (s.port p).roles.producer = true →
    let u := s.received p q [id]
    let keyed (e : ChainId) := (s.chain e).state ≠ .free ∧ (s.chain e).owner = some p ∧ (s.chain e).chainId = id
    (∀ e : ChainId, keyed e → (∀ x : ChainId, x < e → ¬ keyed x) →
      (∀ (h : Handle) (n : Nat), (s.chain e).state = .broken → (s.chain e).breakRec = some (h, n) →
        exec (.chainReset p q [id]) s = .next ((u.modChain e fun _ =>
          { state := .free, owner := none, chainId := 0, cls := 0, strict := false, list := []
            lastConsumer := none, breakRec := none, owed := none }).answer p
          ⟨.ok, [id] ++ handleBytes h ++ num1 n ++ yesNo (s.chain e).owed.isSome⟩))
      ∧ ((s.chain e).state = .isOpen → exec (.chainReset p q [id]) s = .next (u.answer p ⟨.jobState, []⟩)))
    ∧ ((∀ e : ChainId, ¬ keyed e) → exec (.chainReset p q [id]) s = .next (u.answer p ⟨.jobState, []⟩))

/-- PURGE (R17, R11, R9): a QUARANTINED slot enters RETIRING with its marks, or FREE with the next generation at
the tail of the free list when none is owed; its handle fails the handle test from then on; other slots are
refused, and so is a port without the claim. The places of the response's bytes are deduced (log entry 10), and
the close of the event (log entry 15). -/
def Obligations.PurgeReleasesAQuarantinedSlot : Prop :=
  ∀ (s : State) (p : Port) (q : Seq) (i : SlotId), s.takes p q (num1 i.val) →
    s.admits p [.joined, .leaving] = true →
    let u := s.received p q (num1 i.val)
    let e := exec (.purge p q (num1 i.val)) s
    (s.manager ≠ some p → e = .next (u.answer p ⟨.notManager, []⟩))
    ∧ (s.manager = some p → (s.slot i).state ≠ .quarantined → e = .next (u.answer p ⟨.jobState, []⟩))
    ∧ (s.manager = some p → (s.slot i).state = .quarantined → ∃ t : State,
      e = .next (t.answer p ⟨.ok, handleBytes (t.handle i) ++ [(t.slot i).state.code]⟩)
      ∧ t.slot i = (if (s.slot i).marked then
          { s.slot i with state := .retiring, checkOk := true, promoDue := 0, job := Job.cleared }
        else Slot.empty ((s.slot i).gen + 1))
      ∧ t.handleOk (s.handle i) = false
      ∧ t.freeList = s.freeList ++ allSlots.filter (fun j =>
          (t.slot j).state == .free && (s.slot j).state != .free)
      ∧ (∀ j : SlotId, j ≠ i → (s.slot j).state ≠ .retiring → t.slot j = s.slot j)
      ∧ t = { u with slots := t.slots, freeList := t.freeList })

/-- AGE_PROMOTION (R29, R30): a due promotion raises the current urgency by 1 and repositions the job by its
order key, in a class with an age step and below the ceiling; otherwise the instant passes; with none due
nothing happens. The count of due instants, and that nothing happens with none due, are the model's (log entries
4 and 7). -/
def Obligations.AgePromotionRaisesUrgency : Prop :=
  ∀ (s : State) (i : SlotId), s.inReset = false → (s.slot i).state = .queued →
    ((s.slot i).promoDue = 0 → exec (.agePromotion i) s = .next s)
    ∧ (0 < (s.slot i).promoDue → (s.slot i).checkOk = true →
      let c := (s.job i).cls
      ((s.policyOf c).ageStep ≠ 0 → (s.job i).urgency < (s.policyOf c).ageCeiling →
        let t := (s.modQueue c (·.erase i)).modSlot i fun sl =>
          { sl with promoDue := sl.promoDue - 1, job := { sl.job with urgency := sl.job.urgency + 1 } }
        exec (.agePromotion i) s = .next (t.modQueue c (insertKey (t.ahead i) i)))
      ∧ ((s.policyOf c).ageStep = 0 ∨ (s.policyOf c).ageCeiling ≤ (s.job i).urgency →
        exec (.agePromotion i) s = .next (s.modSlot i fun sl => { sl with promoDue := sl.promoDue - 1 })))

/-- Insertion into a class queue (R24): the job joins, the others keep their order, a queue in the order of its
keys stays so, and a newcomer whose key equals others' stands behind them. The place, before the first job that it
ranks ahead of, is R24's where the list is in the order of its keys; in any other list it is the model's choice (log
entry 21). -/
def Obligations.InsertionKeepsTheKeyOrder : Prop :=
  ∀ (s : State) (i : SlotId) (l : List SlotId),
    (∃ a b : List SlotId, l = a ++ b ∧ insertKey (s.ahead i) i l = a ++ i :: b
      ∧ (∀ j ∈ a, s.ahead i j = false) ∧ ∀ j ∈ b.head?, s.ahead i j = true)
    ∧ (s.inOrder l → s.inOrder (insertKey (s.ahead i) i l))
    ∧ (∀ j : SlotId, s.ahead i j = true ↔ (s.job j).urgency < (s.job i).urgency
      ∨ (s.job j).urgency = (s.job i).urgency
        ∧ (s.seqCounter - (s.job j).qseq).toNat < (s.seqCounter - (s.job i).qseq).toNat)

/-! ### Dispatch and offers (chapter 3) -/

/-- ACCEPT and DECLINE (R54, R55, R56, R63): the offered job becomes ACTIVE at the tail of the consumer's
working set, with an attempt more, its lease deadline and no reclaimed-from, and the consumer is its chain's
last; or it is QUEUED again with the port in its declined set. Other jobs are refused. The places of the
response's bytes are deduced (log entry 10). -/
def Obligations.OfferIsAcceptedOrDeclined : Prop :=
  ∀ (s : State) (p : Port) (q : Seq) (h : Handle), s.takes p q (handleBytes h) →
    s.admits p [.joined, .leaving] = true → (s.port p).roles.consumer = true →
    s.handleOk h = true → s.testFails h.slot = false →
    let i := h.slot
    let j := s.job i
    let u := s.received p q (handleBytes h)
    let bothRefused (st : Status) := exec (.accept p q (handleBytes h)) s = .next (u.answer p ⟨st, []⟩)
      ∧ exec (.decline p q (handleBytes h)) s = .next (u.answer p ⟨st, []⟩)
    ((s.slot i).state = .offered → j.consumer = some p →
      (let t := (u.modPort p fun r => { r with workingSet := r.workingSet ++ [i] }).writeSlot i fun sl =>
          { sl with
            state := .active
            job := { sl.job with
              attempts := sl.job.attempts + 1
              deadline := some (s.timeBase + BitVec.ofNat 32 sl.job.leaseLimit)
              reclaimedFrom := none } }
        let t' := match s.inChain i with
          | some e => t.modChain e fun c => { c with lastConsumer := some p }
          | none => t
        exec (.accept p q (handleBytes h)) s = .next (t'.answer p
          ⟨.ok, handleBytes h ++ num1 (j.attempts + 1) ++ num1 j.attemptLimit ++ num2 j.leaseLimit⟩))
      ∧ (let t := u.writeSlot i fun sl =>
          { sl with
            state := .queued, promoDue := 0
            job := { sl.job with
              consumer := none, deadline := none, queuedSince := some s.timeBase
              declined := sl.job.declined.set p true } }
        exec (.decline p q (handleBytes h)) s = .next ((t.modQueue j.cls (insertKey (t.ahead i) i)).answer p
          ⟨.ok, handleBytes h⟩)))
    ∧ ((s.slot i).state = .done ∨ (s.slot i).state = .quarantined → bothRefused .jobState)
    ∧ ((s.slot i).state = .queued → bothRefused .notOwner)
    ∧ ((s.slot i).state = .offered ∨ (s.slot i).state = .active → j.consumer ≠ some p → bothRefused .notOwner)
    ∧ ((s.slot i).state = .active → j.consumer = some p → bothRefused .jobState)

/-- OFFER (R47, R49, R50, R52, R53): none under HOLD; none when no job has an eligible port; otherwise the first
job of the ranking that is not chain-blocked and has an eligible port is offered to the port chosen, and the
pointers move. A failing record met before that job is quarantined and passed over, and the ranking goes on with the
jobs that remain: the event is the OFFER of the state after the quarantine, with its close. That the record read
for a job behind its chain's front is the front's, and that the ranking goes on from its top, is deduced (log
entries 2 and 16); that the event leaves the state as it is where it cannot occur is the model's (log entry 7). -/
def Obligations.OfferGoesToTheHighestRanked : Prop :=
  ∀ s : State, s.inReset = false →
    let passed (x : State) (j : SlotId) :=
      x.testFails (x.front j) = false ∧ (x.front j = j → ∀ y : Port, x.eligible j y = false)
    let meets (x : State) (j : SlotId) := x.testFails (x.front j) = true
      ∧ ∃ above below : List SlotId, x.ranked = above ++ j :: below ∧ ∀ k ∈ above, passed x k
    (s.hold = true → exec .offer s = .next s)
    ∧ (s.hold = false →
      ((∀ i ∈ s.ranked, passed s i) → exec .offer s = .next s)
      ∧ (∀ (i : SlotId) (p : Port) (above below : List SlotId), s.ranked = above ++ i :: below →
        (∀ j ∈ above, passed s j) → s.front i = i → s.testFails i = false → s.choosePort i = some p →
        let j := s.job i
        let t := (s.modQueue j.cls (·.erase i)).writeSlot i fun sl =>
          { sl with
            state := .offered, promoDue := 0
            job := { sl.job with
              consumer := some p, queuedSince := none
              deadline := some (s.timeBase + BitVec.ofNat 32 (s.policyOf j.cls).offerWindow) } }
        exec .offer s = .next
          { t.modPort p fun r =>
              { r with queue := r.queue ++ [.offer ⟨i, (s.slot i).gen⟩ j.cls j.urgency j.tag j.payload] } with
            classPtr := j.cls + 1, portPtr := p + 1 })
      ∧ ∀ i : SlotId, meets s i →
        let v := s.quarantine (s.front i)
        ((∃ k : SlotId, meets v k) → exec .offer s = exec .offer v)
        ∧ ((∀ k : SlotId, ¬ meets v k) → ∃ w, exec .offer v = .next w ∧ exec .offer s = .next w.close))

/-- The ranking (R50, R67), eligibility (R48) and the consumer choice (R51): by urgency; in one urgency by class in
rotation and by place in the class queue, paused classes left out; least load, then the chain's last consumer, then
the port rotation. Place in the class queue is R50's queue sequence where the queue is in the order of its keys; that
it ranks the jobs of a queue out of that order as well is the model's choice (log entry 21). -/
def Obligations.RankingAndConsumerChoice : Prop :=
  ∀ s : State,
    s.ranked.Pairwise (fun i j => (s.job j).urgency ≤ (s.job i).urgency)
    ∧ (∀ u : Nat, u ≤ 15 → s.ranked.filter (fun i => (s.job i).urgency == u) =
      [0, 1, 2, 3, 4, 5, 6, 7].flatMap fun k : ClassId =>
        if s.isPaused (s.classPtr + k) then []
        else (s.classQueue (s.classPtr + k)).filter fun i => (s.job i).urgency == u)
    ∧ (∀ (i : SlotId) (p : Port), s.eligible i p = true ↔ (s.port p).state = .joined
      ∧ (s.port p).roles.consumer = true ∧ (s.port p).stalled = false
      ∧ (s.port p).mask.getLsbD (s.job i).cls.val = true ∧ (s.port p).floor ≤ (s.job i).urgency
      ∧ (s.offerSet p).length + (s.port p).workingSet.length < (s.port p).credits
      ∧ (s.job i).declined[p] = false ∧ (s.port p).queue.length < 32 ∧ s.owed p = false)
    ∧ ∀ i : SlotId,
      let tied (p : Port) := s.eligible i p = true ∧ ∀ x : Port, s.eligible i x = true → s.load p ≤ s.load x
      (s.choosePort i = none ↔ ∀ p : Port, s.eligible i p = false)
      ∧ ∀ p : Port, s.choosePort i = some p → tied p
        ∧ (∀ (e : ChainId) (l : Port), s.inChain i = some e → (s.chain e).lastConsumer = some l → tied l → p = l)
        ∧ ((∀ (e : ChainId) (l : Port), s.inChain i = some e → (s.chain e).lastConsumer = some l → ¬ tied l) →
          ∀ x : Port, tied x → (p - s.portPtr).val ≤ (x - s.portPtr).val)

/-- OFFER_WINDOW_EXPIRY (R57, R64): the job is QUEUED again with the port in its declined set, the port is told,
and its missed count rises to 3 at most, at which it is STALLED and it and the manager are told. It takes place
at a due deadline alone. That a row without a due deadline does nothing is the model's (log entry 7). -/
def Obligations.OfferWindowExpiryCountsAMiss : Prop :=
  ∀ (s : State) (i : SlotId), s.inReset = false →
    (s.offerDue i = false → exec (.offerWindowExpiry i) s = .next s)
    ∧ ∀ (p : Port) (d : Word), (s.slot i).state = .offered → (s.slot i).checkOk = true →
      (s.job i).consumer = some p → (s.job i).deadline = some d → s.ticksTo d = 0 →
      let t := s.writeSlot i fun sl =>
        { sl with
          state := .queued, promoDue := 0
          job := { sl.job with
            consumer := none, deadline := none, queuedSince := some s.timeBase
            declined := sl.job.declined.set p true } }
      let r := (t.modQueue (s.job i).cls (insertKey (t.ahead i) i)).notifyConsumer i p (.offerWithdrawn .window)
      ((s.port p).missed < 2 →
        exec (.offerWindowExpiry i) s = .next (r.modPort p fun x => { x with missed := x.missed + 1 }))
      ∧ ((s.port p).missed = 2 →
        let v := (r.modPort p fun x => { x with missed := 3, stalled := true }).notifyPort p .stalled
        (s.manager = none → exec (.offerWindowExpiry i) s = .next v)
        ∧ ∀ m : Port, s.manager = some m →
          exec (.offerWindowExpiry i) s = .next (v.notifyPort m (.portStalled p)))
      ∧ (3 ≤ (s.port p).missed → exec (.offerWindowExpiry i) s = .next r)

/-! ### Leases (chapter 4) -/

/-- The handle step and the record's test (R3, R13, R14, R16) for every command that names a job: a handle of another
generation or of a FREE or RETIRING slot is refused STALE; a record that fails its test is quarantined and
the command refused JOB_STATE; a quarantined job is refused JOB_STATE by all but QUERY. Then the holder
test of RENEW, RETURN and COMPLETE (R75, R76's table). -/
def Obligations.HandleRecordAndHolderTests : Prop :=
  ∀ (s : State) (c : Instr) (p : Port) (f : Frame) (h : Handle), c.frame = some (p, f) →
    s.takes p f.seq f.params → s.admits p c.admittedIn = true → s.roleFits p c = true → c.handleOf = some h →
    let i := h.slot
    let j := s.job i
    let u := s.received p f.seq f.params
    let refusedWith (st : Status) := exec c s = .next (u.answer p ⟨st, []⟩)
    ((s.slot i).gen ≠ h.gen ∨ (s.slot i).state = .free ∨ (s.slot i).state = .retiring → refusedWith .stale)
    ∧ (s.handleOk h = true → s.testFails i = true → c.isQuery = false →
      exec c s = .next ((u.quarantine i).close.answer p ⟨.jobState, []⟩))
    ∧ ((s.slot i).gen = h.gen → (s.slot i).state = .quarantined → c.isQuery = false → refusedWith .jobState)
    ∧ (c.isHolderRow = true → (s.slot i).gen = h.gen → s.testFails i = false →
      (j.reclaimedFrom = some p → (s.slot i).state = .queued ∨ (s.slot i).state = .offered →
        refusedWith .leaseLost)
      ∧ (j.reclaimedFrom ≠ some p → (s.slot i).state = .offered → j.consumer = some p → refusedWith .jobState)
      ∧ (j.reclaimedFrom ≠ some p → (s.slot i).state = .offered → j.consumer ≠ some p → refusedWith .notOwner)
      ∧ (j.reclaimedFrom ≠ some p → (s.slot i).state = .queued → refusedWith .notOwner)
      ∧ ((s.slot i).state = .active → j.consumer ≠ some p → refusedWith .notOwner)
      ∧ ((s.slot i).state = .done → refusedWith .notOwner))

/-- RENEW and RETURN of the holder (R77, R78, R79, R88): the deadline moves to now plus the extension, the lease
limit for an extension of 0; the job is requeued with its attempt refunded and, asked for, the port in its
declined set, or finished CANCELLED when a cancel was requested. The outcome's code is a free value and the
places of the bytes are deduced (log entries 9 and 10). -/
def Obligations.RenewAndReturnOfTheHolder : Prop :=
  ∀ (s : State) (p : Port) (q : Seq) (ps : List Byte) (i : SlotId), s.takes p q ps →
    s.admits p [.joined, .leaving] = true → (s.port p).roles.consumer = true → s.handleOk (s.handle i) = true →
    (s.slot i).state = .active → (s.slot i).checkOk = true → (s.job i).consumer = some p →
    let j := s.job i
    let u := s.received p q ps
    let marks := fun v : Vector (Option ConsumerNotice) 4 =>
      if v[p] = some .cancelRequest then v.set p none else v
    (∀ n : Nat, parseRenew ps = some (s.handle i, n) →
      let d := s.timeBase + BitVec.ofNat 32 (if n = 0 then j.leaseLimit else n)
      exec (.renew p q ps) s = .next ((u.writeJob i fun x => { x with deadline := some d }).answer p
        ⟨.ok, handleBytes (s.handle i) ++ num2 (s.ticksTo d) ++ yesNo j.cancelRequested⟩))
    ∧ (∀ avoid : Bool, parseReturn ps = some (s.handle i, avoid) → j.cancelRequested = false →
      let t := (u.modPort p fun r => { r with workingSet := r.workingSet.erase i }).writeSlot i fun sl =>
        { sl with
          state := .queued, promoDue := 0, consumerMarks := marks sl.consumerMarks
          job := { sl.job with
            consumer := none, deadline := none, queuedSince := some s.timeBase, attempts := sl.job.attempts - 1
            declined := if avoid then sl.job.declined.set p true else sl.job.declined } }
      exec (.returnJob p q ps) s = .next ((t.modQueue j.cls (insertKey (t.ahead i) i)).close.answer p
        ⟨.ok, [Config.outcomeCode .requeued] ++ handleBytes (s.handle i) ++ num1 (j.attempts - 1)⟩))
    ∧ (∀ avoid : Bool, parseReturn ps = some (s.handle i, avoid) → j.cancelRequested = true →
      let t := (u.modPort p fun r => { r with workingSet := r.workingSet.erase i }).writeSlot i fun sl =>
        { sl with
          consumerMarks := marks sl.consumerMarks, job := { sl.job with consumer := none, deadline := none } }
      exec (.returnJob p q ps) s = .next ((t.finishJob i .cancelled).close.answer p
        ⟨.ok, [Config.outcomeCode .finished] ++ handleBytes (s.handle i) ++ [2]⟩))

/-- COMPLETE of the holder (R80, R81, R88): the job leaves the working set with its user code and result
recorded, the owed CANCEL_REQUEST is discarded, and the job finishes with the outcome; CANCELLED without a
cancel request is refused BAD_PARAM. The places of the response's bytes are deduced (log entry 10). -/
def Obligations.CompleteFinishesTheJob : Prop :=
  ∀ (s : State) (p : Port) (q : Seq) (ps : List Byte) (c : CompleteParams), s.takes p q ps →
    s.admits p [.joined, .leaving] = true → (s.port p).roles.consumer = true → parseComplete ps = some c →
    s.handleOk c.handle = true → (s.slot c.handle.slot).state = .active →
    (s.slot c.handle.slot).checkOk = true → (s.job c.handle.slot).consumer = some p →
    let i := c.handle.slot
    let u := s.received p q ps
    let t := (u.modPort p fun r => { r with workingSet := r.workingSet.erase i }).writeSlot i fun sl =>
      { sl with
        consumerMarks :=
          if sl.consumerMarks[p] = some .cancelRequest then sl.consumerMarks.set p none else sl.consumerMarks
        job := { sl.job with
          consumer := none, deadline := none, userCode := some c.userCode, result := some c.result } }
    (c.outcome ≠ .cancelled ∨ (s.job i).cancelRequested = true →
      exec (.complete p q ps) s = .next ((t.finishJob i c.outcome).close.answer p
        ⟨.ok, handleBytes c.handle ++ [c.outcome.code]⟩))
    ∧ (c.outcome = .cancelled → (s.job i).cancelRequested = false →
      exec (.complete p q ps) s = .next (u.answer p ⟨.badParam, []⟩))

/-- LEASE_EXPIRY (R82, R83, R84): the job leaves its consumer's working set, which reclaimed from names and
which is told; it is finished CANCELLED when a cancel was requested, finished EXPIRED at its attempt limit, and
requeued otherwise. It takes place at a due deadline alone. That a row without a due deadline does nothing is
the model's (log entry 7). -/
def Obligations.LeaseExpiryDisposesOfTheJob : Prop :=
  ∀ (s : State) (i : SlotId), s.inReset = false →
    (s.leaseDue i = false → exec (.leaseExpiry i) s = .next s)
    ∧ ∀ (p : Port) (d : Word), (s.slot i).state = .active → (s.slot i).checkOk = true →
      (s.job i).consumer = some p → (s.job i).deadline = some d → s.ticksTo d = 0 →
      let j := s.job i
      let t := ((s.modPort p fun r => { r with workingSet := r.workingSet.erase i }).writeJob i fun x =>
        { x with consumer := none, deadline := none, reclaimedFrom := some p }).notifyConsumer i p
          (.leaseLost .expired)
      (j.cancelRequested = true → exec (.leaseExpiry i) s = .next (t.finishJob i .cancelled).close)
      ∧ (j.cancelRequested = false → j.attempts = j.attemptLimit →
        exec (.leaseExpiry i) s = .next (t.finishJob i .expired).close)
      ∧ (j.cancelRequested = false → j.attempts ≠ j.attemptLimit →
        let r := t.writeSlot i fun sl =>
          { sl with
            state := .queued, promoDue := 0
            job := { sl.job with consumer := none, deadline := none, queuedSince := some s.timeBase } }
        exec (.leaseExpiry i) s = .next (r.modQueue j.cls (insertKey (r.ahead i) i)).close)

/-! ### How a job ends (chapters 1, 2 and 5) -/

/-- Quarantine (R13, R15) of a job in no chain list or in one of a chain that is not strict: the slot leaves its
collection and its chain list, its count ends, the record keeps the job's fields and its holder, and the
producer and the holder are told where they have room. A due lease, offer window or promotion of a failing
record does this and nothing more. The check code is held as its agreement with the record (log entry 1). -/
def Obligations.FailingRecordIsQuarantined : Prop :=
  ∀ (s : State) (i : SlotId), s.testFails i = true →
    (∀ e : ChainId, s.inChain i = some e → (s.chain e).strict = false) →
    let sl := s.slot i
    let t := s.quarantine i
    (t.slot i).state = .quarantined ∧ (t.slot i).gen = sl.gen ∧ (t.slot i).checkOk = true
    ∧ (t.slot i).job = { sl.job with
        consumer := none, deadline := none, declined := Vector.replicate 4 false, queuedSince := none
        cancelRequested := false, reclaimedFrom := none, finish := none, userCode := none, result := none
        lostHolder := if sl.state = .offered ∨ sl.state = .active then sl.job.consumer else none }
    ∧ (sl.state = .queued → t.classQueue sl.job.cls = (s.classQueue sl.job.cls).erase i)
    ∧ (∀ c : ClassId, sl.state ≠ .queued ∨ c ≠ sl.job.cls → t.classQueue c = s.classQueue c)
    ∧ (∀ e : ChainId, (t.chain e).list =
        if s.inChain i = some e then (s.chain e).list.erase i else (s.chain e).list)
    ∧ (∀ r : Port, sl.job.producer = some r →
      (t.port r).quotaCount = (s.port r).quotaCount - 1
      ∧ ((s.port r).state ≠ .down → s.room r = true → (sl.job.consumer = some r → sl.state = .queued ∨ sl.state = .done) →
        (t.port r).queue = (s.port r).queue ++ [.jobLost (s.handle i)]))
    ∧ (∀ x : Port, sl.job.consumer = some x → sl.job.producer ≠ some x →
      (sl.state = .active → (t.port x).workingSet = (s.port x).workingSet.erase i)
      ∧ (sl.state = .offered ∨ sl.state = .active → (s.port x).state ≠ .down → s.room x = true →
        (t.port x).queue = (s.port x).queue ++ [.jobLost (s.handle i)]))
    ∧ (∀ j : SlotId, j ≠ i → t.slot j = s.slot j)
    ∧ t.words = s.words ∧ t.watches = s.watches ∧ t.freeList = s.freeList
    ∧ (s.inReset = false → s.leaseDue i = true → exec (.leaseExpiry i) s = .next t.close)
    ∧ (s.inReset = false → s.offerDue i = true → exec (.offerWindowExpiry i) s = .next t.close)
    ∧ (s.inReset = false → sl.state = .queued → 0 < sl.promoDue → exec (.agePromotion i) s = .next t.close)

/-- The finishing procedure (R95 to R98, R10, R11) for a finish that breaks no chain, a FAILED or EXPIRED one in a chain
that is not strict among them: the job leaves its class queue and its chain list; its completion action, if it has
one that its status hands over, is a combine; then with report yes it is DONE and its producer, where it has room,
receives JOB_DONE; with report no the slot is released with its marks, its count ended where it has a producer. A
released slot stands RETIRING until the close (log entry 15). -/
def Obligations.FinishedJobIsReportedOrReleased : Prop :=
  ∀ (s : State) (i : SlotId) (st : FinishStatus),
    let sl := s.slot i
    sl.state = .queued ∨ (sl.state = .offered ∨ sl.state = .active) ∧ sl.job.consumer = none →
    (∀ e : ChainId, s.inChain i = some e → (s.chain e).strict = true → st ≠ .failed ∧ st ≠ .expired) →
    let t := s.finishJob i st
    let done := { sl with
      state := .done, checkOk := true, promoDue := 0
      job := { sl.job with
        consumer := none, deadline := none, queuedSince := none, declined := Vector.replicate 4 false
        reclaimedFrom := none, cancelRequested := false, finish := some st } }
    let released := { sl with state := .retiring, checkOk := true, promoDue := 0, job := Job.cleared }
    (∀ c : ClassId, t.classQueue c =
        if sl.state = .queued ∧ c = sl.job.cls then (s.classQueue c).erase i else s.classQueue c)
    ∧ (∀ e : ChainId, t.chain e =
        if s.inChain i = some e then { s.chain e with list := (s.chain e).list.erase i } else s.chain e)
    ∧ (∀ j : SlotId, j ≠ i → t.slot j = s.slot j)
    ∧ t.freeList = s.freeList ∧ t.seqCounter = s.seqCounter
    ∧ (sl.job.report = false → t.slot i = released)
    ∧ (sl.job.action = none → t.words = s.words ∧ t.watches = s.watches
      ∧ (sl.job.producer = none → t.ports = s.ports)
      ∧ ∀ r : Port, sl.job.producer = some r → (∀ x : Port, x ≠ r → t.port x = s.port x)
        ∧ (sl.job.report = true → (s.port r).state ≠ .down → s.room r = true →
          t.slot i = done
          ∧ t.port r = { s.port r with
              queue := (s.port r).queue ++ [.jobDone (s.handle i) st sl.job.userCode] })
        ∧ (sl.job.report = false → t.port r = { s.port r with quotaCount := (s.port r).quotaCount - 1 }))
    ∧ ∀ a : Action, sl.job.action = some a →
      let v := s.leaveLive i
      let w := if a.when = .anyFinish ∨ st = .success then v.applyCombine a.flag a.fn a.operand a.mask else v
      t.words = (if a.when = .anyFinish ∨ st = .success then
          s.words.set a.flag (combine a.fn (s.flagWord a.flag) a.operand a.mask) else s.words)
      ∧ (sl.job.producer = none → t.ports = w.ports)
      ∧ ∀ r : Port, sl.job.producer = some r → (∀ x : Port, x ≠ r → t.port x = w.port x)
        ∧ (sl.job.report = true → (w.port r).state ≠ .down → w.room r = true →
          t.slot i = done
          ∧ t.port r = { w.port r with
              queue := (w.port r).queue ++ [.jobDone (s.handle i) st sl.job.userCode] })
        ∧ (sl.job.report = false → t.port r = { w.port r with quotaCount := (w.port r).quotaCount - 1 })

/-- The break procedure (R37, R38, R39). One job of the list leaves its consumer if it is the front and held, which
is told OFFER_WITHDRAWN CANCELLED or LEASE_LOST DROPPED, and finishes CHAIN_BROKEN; one whose record fails is
quarantined and not counted. Over sound records every job of the list ends, DONE with CHAIN_BROKEN or released; the
entry is BROKEN and its break record holds the failing handle and the count; its list is empty. Then CHAIN_BROKEN
is queued for the entry's producer, or owed in the entry where it has no room, and an entry keyed to none makes no
notice. A FAILED or EXPIRED finish and a quarantine break a strict chain (R36, R96, R15), before the failing job's
own end. A released slot stands RETIRING until the close (log entry 15). -/
def Obligations.ChainBreakFinishesTheList : Prop :=
  (∀ (s : State) (e : ChainId) (failing : Handle), s.sound →
    let t := s.breakChain e failing
    (t.chain e).state = .broken ∧ (t.chain e).breakRec = some (failing, (s.chain e).list.length)
    ∧ (∀ j ∈ (s.chain e).list,
      ((s.job j).report = true → (t.slot j).state = .done ∧ (t.job j).finish = some .chainBroken)
      ∧ ((s.job j).report = false → (t.slot j).state = .retiring))
    ∧ (∀ j : SlotId, j ∉ (s.chain e).list → t.slot j = s.slot j)
    ∧ ((s.chain e).list.Nodup → (∀ j ∈ (s.chain e).list, ∃ id, (s.job j).chain = some (id, e)) →
      (t.chain e).list = [])
    ∧ (∀ i : SlotId, s.inChain i = some e → (s.chain e).strict = true →
      s.finishJob i .failed = ((s.leaveLive i).breakChain e (s.handle i)).finishTail i .failed
      ∧ s.finishJob i .expired = ((s.leaveLive i).breakChain e (s.handle i)).finishTail i .expired)
    ∧ (∀ (i : SlotId) (u : State), u.inChain i = some e → (u.chain e).strict = true →
      u.quarantine i = ((u.enterQuarantine i).breakChain e (u.handle i)).passLost i (u.holder i)))
  ∧ (∀ (s : State) (e : ChainId) (failing : Handle),
    let r := (s.chain e).list.foldl breakJob (s, 0)
    let v := r.1.modChain e fun c => { c with state := .broken, breakRec := some (failing, r.2) }
    let t := s.breakChain e failing
    ((s.chain e).owner = none → t = v)
    ∧ ∀ p : Port, (s.chain e).owner = some p →
      ((s.port p).state = .down → t = v)
      ∧ ((s.port p).state ≠ .down → v.room p = true →
        t = v.enqueue p (.chainBroken (s.chain e).chainId failing r.2))
      ∧ ((s.port p).state ≠ .down → v.room p = false →
        t = v.modChain e fun c => { c with owed := some ⟨(s.chain e).chainId, failing, r.2⟩ }))
  ∧ ∀ (s : State) (j : SlotId) (n : Nat),
    let ended (w : State) := ((w.leaveLive j).finishTail j .chainBroken, n + 1)
    let freed (w : State) := w.writeJob j fun x => { x with consumer := none, deadline := none }
    (s.testFails j = true → breakJob (s, n) j = (s.quarantineInBreak j, n))
    ∧ (s.testFails j = false →
      ((s.slot j).state = .queued → breakJob (s, n) j = ended s)
      ∧ ∀ x : Port, (s.job j).consumer = some x →
        ((s.slot j).state = .offered →
          breakJob (s, n) j = ended ((freed s).notifyConsumer j x (.offerWithdrawn .cancelled)))
        ∧ ((s.slot j).state = .active →
          breakJob (s, n) j = ended ((freed (s.modPort x fun r =>
            { r with workingSet := r.workingSet.erase j })).notifyConsumer j x (.leaseLost .dropped))))

/-- The close of an event (R99, R35, R12, R9, R4): emptied OPEN chain entries and emptied entries keyed to none are
freed, unmarked RETIRING slots enter FREE with the next generation, in ascending order at the tail of the free list,
and then the drains that can end do, port by port; where none can, nothing else changes. A drain with nothing left
ends (R153): BROKEN entries keyed to the port are freed with their owed marks, the port is cleared from QUARANTINED
slots, its watches are freed, its record is cleared, and it is IDLE, with LEFT queued for it or owed to it. The
close, and the values of cleared fields, are as log entries 15 and 17 say. -/
def Obligations.CloseOfAnEvent : Prop :=
  ∀ s : State,
    let drains (p : Port) := (s.port p).state = .leaving ∧ (s.port p).departure = none
      ∧ (s.port p).workingSet = [] ∧ s.produced p = [] ∧ (s.port p).scan = none
    (∃ m : State,
      (∀ e : ChainId, m.chain e =
        if (s.chain e).list = [] ∧ ((s.chain e).state = .isOpen
          ∨ (s.chain e).state = .broken ∧ (s.chain e).owner = none) then ChainEntry.cleared else s.chain e)
      ∧ (∀ i : SlotId, m.slot i =
        if (s.slot i).state = .retiring ∧ (s.slot i).marked = false then Slot.empty ((s.slot i).gen + 1)
        else s.slot i)
      ∧ m.freeList = s.freeList ++ allSlots.filter (fun i =>
          (s.slot i).state == .retiring && !(s.slot i).marked)
      ∧ m = { s with chains := m.chains, slots := m.slots, freeList := m.freeList }
      ∧ s.close = [0, 1, 2, 3].foldl closeDrain m
      ∧ ((∀ p : Port, ¬ drains p) → s.close = m))
    ∧ ∀ p : Port, (¬ drains p → closeDrain s p = s) ∧ (drains p →
      let t := closeDrain s p
      let idle : PortRec :=
        { s.port p with
          state := .idle, departure := none, roles := Roles.absent, credits := 0, mask := 0, floor := 0
          missed := 0, stalled := false, latch := none, cursor := 0 }
      let stillOwed := (s.port p).notices.any = true
        ∨ ∃ i : SlotId, (s.slot i).owesProducer p = true ∨ (s.slot i).owesConsumer p = true
      (∀ e : ChainId, t.chain e =
        if (s.chain e).state ≠ .free ∧ (s.chain e).owner = some p then
          if (s.chain e).state = .isOpen ∧ s.orphanPolicy = .keep then { s.chain e with owner := none }
          else ChainEntry.cleared
        else s.chain e)
      ∧ (∀ i : SlotId, t.slot i =
        if (s.slot i).state = .quarantined then
          { s.slot i with job := { s.job i with
              producer := if (s.job i).producer = some p then none else (s.job i).producer
              lostHolder := if (s.job i).lostHolder = some p then none else (s.job i).lostHolder } }
        else s.slot i)
      ∧ (∀ k : WatchId, t.watch k =
          if (s.watch k).state ≠ .free ∧ (s.watch k).owner = some p then Watch.cleared else s.watch k)
      ∧ t.port p = { idle with queue := (t.port p).queue, notices := (t.port p).notices }
      ∧ ((∀ e : ChainId, (s.chain e).state = .free → (s.chain e).owed = none) →
        ((s.port p).queue.length < 32 → ¬ stillOwed →
          t.port p = { idle with queue := (s.port p).queue ++ [.portNotice .left] })
        ∧ (32 ≤ (s.port p).queue.length ∨ stillOwed →
          t.port p = { idle with notices := { (s.port p).notices with left := true } }))
      ∧ (∀ x : Port, x ≠ p → t.port x = s.port x)
      ∧ t = { s with ports := t.ports, slots := t.slots, chains := t.chains, watches := t.watches })

/-! ### Flag words and watches (chapter 6) -/

/-- A combine, bit by bit (R116): outside the mask the old bit; inside it the function of the old bit and the
operand bit; a full mask applies the function to the whole word, a mask of 0 leaves it; and it is the word a
FLAG_COMBINE or a completion action leaves (R112). -/
def Obligations.CombineReplacesMaskedBits : Prop :=
  ∀ (fn : CombineFn) (old operand mask : Word),
    (∀ k : Nat, k < 32 → (combine fn old operand mask).getLsbD k =
      if mask.getLsbD k then
        match fn with
        | .replace => operand.getLsbD k
        | .and => old.getLsbD k && operand.getLsbD k
        | .or => old.getLsbD k || operand.getLsbD k
        | .xor => old.getLsbD k != operand.getLsbD k
      else old.getLsbD k)
    ∧ combine fn old operand 0xFFFFFFFF = fn.apply old operand ∧ combine fn old operand 0 = old
    ∧ (∀ (s : State) (f : FlagId), s.flagWord f = old →
      (s.applyCombine f fn operand mask).words = s.words.set f (combine fn old operand mask))
    ∧ (∀ (s : State) (i : SlotId) (f : FlagId) (w : When) (st : FinishStatus), s.flagWord f = old →
      (s.job i).action = some ⟨f, fn, w, operand, mask⟩ → (w = .anyFinish ∨ st = .success) →
      (s.applyAction i st).words = s.words.set f (combine fn old operand mask))

/-- FLAG_READ and FLAG_COMBINE (R113, R115, R117, R118): the word is read into the port's latch; a combine that
applies writes the combined word and evaluates the word's watches, one whose LATCH_EQUAL condition fails writes
nothing; both reload the latch; a combine the latch does not fit is refused WRONG_STATE. The places of the
response's bytes are deduced (log entry 10). -/
def Obligations.FlagReadAndCombine : Prop :=
  ∀ (s : State) (p : Port) (q : Seq) (ps : List Byte), s.takes p q ps →
    s.admits p [.joined, .leaving] = true →
    let u := s.received p q ps
    (∀ f : FlagId, ps = num1 f.val → exec (.flagRead p q ps) s = .next
      ((u.modPort p fun r => { r with latch := some (f, s.flagWord f) }).answer p
        ⟨.ok, num1 f.val ++ wordBytes (s.flagWord f)⟩))
    ∧ ∀ c : CombineParams, parseCombine ps = some c →
      let old := s.flagWord c.flag
      let applied (x : Word) :=
        let v := combine c.fn old x c.mask
        exec (.flagCombine p q ps) s = .next
          ((({ u with words := u.words.set c.flag v }.evalWatches c.flag v).modPort p fun r =>
            { r with latch := some (c.flag, v) }).answer p ⟨.ok, wordBytes old ++ [1]⟩)
      let wrongState := exec (.flagCombine p q ps) s = .next (u.answer p ⟨.wrongState, []⟩)
      ((s.port p).latch = none →
        (c.fromLatch = true ∨ c.latchEqual = true → wrongState)
        ∧ (c.fromLatch = false → c.latchEqual = false → applied c.operand))
      ∧ ∀ (l : FlagId) (v : Word), (s.port p).latch = some (l, v) →
        (c.latchEqual = true → l ≠ c.flag → wrongState)
        ∧ (c.latchEqual = false → applied (if c.fromLatch then v else c.operand))
        ∧ (c.latchEqual = true → l = c.flag →
          (old &&& c.care = v &&& c.care → applied (if c.fromLatch then v else c.operand))
          ∧ (old &&& c.care ≠ v &&& c.care → exec (.flagCombine p q ps) s = .next
            ((u.modPort p fun r => { r with latch := some (c.flag, old) }).answer p
              ⟨.ok, wordBytes old ++ [0]⟩)))

/-- The evaluation of a watch entry with an owner that is not DOWN (R123, R124): the match, the hit of each mode,
and what a hit does with room and without. A combine evaluates the ARMED entries on its word in ascending entry
index, and no others: an ARMED ONCE entry that matches does not stay ARMED, and an ARMED PERSIST entry's last
matched is whether it matches. -/
def Obligations.WatchEvaluation : Prop :=
  (∀ (s : State) (k : WatchId) (v : Word) (p : Port), (s.watch k).owner = some p → (s.port p).state ≠ .down →
    let w := s.watch k
    let fits := v &&& w.care = w.pattern &&& w.care
    let told := s.enqueue p (.watchHit k w.flag v)
    (w.mode = .once → ¬ fits → s.evalWatch k v = s)
    ∧ (w.mode = .once → fits → s.room p = true → s.evalWatch k v = told.modWatch k fun _ => Watch.cleared)
    ∧ (w.mode = .once → fits → s.room p = false →
      s.evalWatch k v = s.modWatch k fun x => { x with state := .pending, held := some v })
    ∧ (w.mode = .persist → ¬ fits → s.evalWatch k v = s.modWatch k fun x => { x with lastMatched := false })
    ∧ (w.mode = .persist → fits → w.lastMatched = true → s.evalWatch k v = s)
    ∧ (w.mode = .persist → fits → w.lastMatched = false → s.room p = true →
      s.evalWatch k v = told.modWatch k fun x => { x with lastMatched := true })
    ∧ (w.mode = .persist → fits → w.lastMatched = false → s.room p = false →
      s.evalWatch k v = s.modWatch k fun x =>
        { x with state := .pending, held := some v, lastMatched := true }))
  ∧ (∀ (s : State) (f : FlagId) (v : Word), s.evalWatches f v =
      (List.finRange 16).foldl
        (fun t k => if (t.watch k).state = .armed ∧ (t.watch k).flag = f then t.evalWatch k v else t) s)
  ∧ (∀ (s : State) (f : FlagId) (v : Word) (k : WatchId) (p : Port), (s.watch k).state = .armed →
      (s.watch k).flag = f → (s.watch k).owner = some p → (s.port p).state ≠ .down →
      let w := s.watch k
      let fits := v &&& w.care = w.pattern &&& w.care
      let w' := (s.evalWatches f v).watch k
      (¬ fits → w' = if w.mode = .persist then { w with lastMatched := false } else w)
      ∧ (fits → w.mode = .once →
        w' = Watch.cleared ∧ .watchHit k f v ∈ ((s.evalWatches f v).port p).queue
          ∨ w' = { w with state := .pending, held := some v })
      ∧ (fits → w.mode = .persist → w.lastMatched = true → w' = w)
      ∧ (fits → w.mode = .persist → w.lastMatched = false →
        w' = { w with lastMatched := true } ∧ .watchHit k f v ∈ ((s.evalWatches f v).port p).queue
          ∨ w' = { w with state := .pending, held := some v, lastMatched := true }))
  ∧ ∀ (s : State) (f : FlagId) (v : Word) (k : WatchId), (s.watch k).state ≠ .armed ∨ (s.watch k).flag ≠ f →
    (s.evalWatches f v).watch k = s.watch k

/-- WATCH_SET and WATCH_CLEAR (R122, R126): the lowest FREE entry is armed for the port and evaluated at once;
an entry of the port is freed with its owed hit; no FREE entry is WATCH_FULL, and another's entry NOT_OWNER. The
places of the response's bytes are deduced (log entry 10). -/
def Obligations.WatchIsSetAndCleared : Prop :=
  ∀ (s : State) (p : Port) (q : Seq) (ps : List Byte), s.takes p q ps →
    let u := s.received p q ps
    (s.admits p [.joined] = true → ∀ a : WatchParams, parseWatch ps = some a →
      (∀ k : WatchId, (s.watch k).state = .free → (∀ x : WatchId, x < k → (s.watch x).state ≠ .free) →
        let v := s.flagWord a.flag
        let hit : Bool := v &&& a.care == a.pattern &&& a.care
        exec (.watchSet p q ps) s = .next (((u.modWatch k fun _ =>
          { state := .armed, owner := some p, flag := a.flag, care := a.care, pattern := a.pattern
            mode := a.mode, lastMatched := false, held := none }).evalWatch k v).answer p
          ⟨.ok, num1 k.val ++ yesNo hit⟩))
      ∧ ((∀ k : WatchId, (s.watch k).state ≠ .free) →
        exec (.watchSet p q ps) s = .next (u.answer p ⟨.watchFull, []⟩)))
    ∧ (s.admits p [.joined, .leaving] = true → ∀ k : WatchId, ps = num1 k.val →
      ((s.watch k).state ≠ .free → (s.watch k).owner = some p →
        exec (.watchClear p q ps) s = .next ((u.modWatch k fun _ => Watch.cleared).answer p
          ⟨.ok, num1 k.val ++ yesNo ((s.watch k).state == .pending)⟩))
      ∧ ((s.watch k).state = .free ∨ (s.watch k).owner ≠ some p →
        exec (.watchClear p q ps) s = .next (u.answer p ⟨.notOwner, []⟩)))

/-! ### Notices (chapter 7) -/

/-- FETCH (R133, R134, R139): the longest run of at most n records from the head that fits 480 response bytes is
removed and returned; what is owed is delivered behind the rest; slots left without a mark enter FREE. What the
480 bytes count is deduced (log entry 11), and so are the places of the bytes (log entry 10). A record's bytes
are its kind, the length of its body and its body, kind by kind as R199 lays them out with the codes of R197. -/
def Obligations.FetchTakesFromTheHead : Prop :=
  (∀ e : Event, e.bytes =
    let handle (h : Handle) : List Byte := [BitVec.ofNat 8 h.slot.val, h.gen]
    let word (w : Word) : List Byte :=
      [w.extractLsb' 0 8, w.extractLsb' 8 8, w.extractLsb' 16 8, w.extractLsb' 24 8]
    let reason (r : Reason) : Byte := match r with
      | .window => 0 | .cancelled => 1 | .leaving => 2 | .dropped => 3 | .expired => 4
    match e with
    | .offer h c u tag ws =>
      [1, BitVec.ofNat 8 (7 + 4 * ws.length)] ++ handle h
        ++ [BitVec.ofNat 8 c.val, BitVec.ofNat 8 u, tag.extractLsb' 0 8, tag.extractLsb' 8 8,
          BitVec.ofNat 8 ws.length] ++ ws.flatMap word
    | .offerWithdrawn h r => [2, 3] ++ handle h ++ [reason r]
    | .leaseLost h r => [3, 3] ++ handle h ++ [reason r]
    | .cancelRequest h => [4, 2] ++ handle h
    | .jobDone h st code =>
      [5, 5] ++ handle h
        ++ [match st with | .success => 0 | .failed => 1 | .cancelled => 2 | .expired => 3 | .chainBroken => 4]
        ++ (match code with | some b => [1, b] | none => [0, 0])
    | .jobLost h => [6, 2] ++ handle h
    | .chainBroken id h n => [7, 4, id] ++ handle h ++ [BitVec.ofNat 8 n]
    | .watchHit k f v => [8, 6, BitVec.ofNat 8 k.val, BitVec.ofNat 8 f.val] ++ word v
    | .portNotice n => [9, 2] ++ match n with
      | .left => [1, 0]
      | .evicted => [2, 0]
      | .stalled => [3, 0]
      | .portStalled x => [4, BitVec.ofNat 8 x.val]
      | .managerChanged (some x) => [5, BitVec.ofNat 8 x.val]
      | .managerChanged none => [5, 0xFF]
      | .holdOn => [6, 0]
      | .holdOff => [7, 0]
      | .cleared => [8, 0])
  ∧ ∀ (s : State) (p : Port) (q : Seq) (n : Nat), 1 ≤ n → n ≤ 8 → s.takes p q (num1 n) →
    s.admits p [.idle, .joined, .leaving] = true →
    let l := (s.port p).queue
    ∃ m : Nat, m ≤ n ∧ m ≤ l.length ∧ ((l.take m).flatMap Event.bytes).length ≤ 480
      ∧ (m < n → m < l.length → 480 < ((l.take (m + 1)).flatMap Event.bytes).length)
      ∧ exec (.fetch p q (num1 n)) s = .next
        (((((s.received p q (num1 n)).modPort p fun r => { r with queue := l.drop m }).deliver p).closeSlots).answer
          p ⟨.ok, num1 m ++ (l.take m).flatMap Event.bytes⟩)

/-- Delivery (R134, R138, R125, R135): into a queue that is not over its 32 entries, exactly the records owed to
the port join in the delivery order, as many as fit; what is delivered is owed no more, so that the queue is full
or nothing is owed. A slot or chain entry changes in its marks alone; a PENDING entry whose hit is delivered is FREE
and cleared when ONCE and, when PERSIST, ARMED without a held value, its last matched computed from the present flag
word (R125); other entries, what is owed to other ports, and with nothing owed everything, stay as they are. -/
def Obligations.OwedMarksAreDeliveredInOrder : Prop :=
  ∀ (s : State) (p : Port), (s.port p).queue.length ≤ 32 →
    let t := s.deliver p
    let before (k : WatchId) : Nat :=
      ((s.port p).notices.owedNotices.map Event.portNotice ++ allSlots.flatMap (s.slotRecords p)
        ++ allChains.flatMap (s.chainRecords p)
        ++ (allWatches.filter fun x => x.val < k.val).flatMap (s.watchRecords p)).length
    let delivered (k : WatchId) : Prop := (s.watch k).state = .pending ∧ (s.watch k).owner = some p
      ∧ before k < 32 - (s.port p).queue.length
    (t.port p).queue = (s.port p).queue ++ (s.owedRecords p).take (32 - (s.port p).queue.length)
    ∧ t.owedRecords p = (s.owedRecords p).drop (32 - (s.port p).queue.length)
    ∧ ((t.port p).queue.length = 32 ∨ t.owed p = false)
    ∧ (s.owed p = false → t = s)
    ∧ t.port p = { s.port p with queue := (t.port p).queue, notices := (t.port p).notices }
    ∧ (∀ x : Port, x ≠ p → t.port x = s.port x ∧ t.owedRecords x = s.owedRecords x)
    ∧ (∀ i : SlotId, t.slot i = { s.slot i with
        checkOk := (s.slot i).checkOk || decide ((t.slot i).producerMark ≠ (s.slot i).producerMark)
          || decide ((t.slot i).consumerMarks ≠ (s.slot i).consumerMarks)
        producerMark := (t.slot i).producerMark, consumerMarks := (t.slot i).consumerMarks })
    ∧ (∀ e : ChainId, t.chain e = { s.chain e with owed := (t.chain e).owed })
    ∧ (∀ k : WatchId, let w := s.watch k
      (¬ delivered k → t.watch k = w)
      ∧ (delivered k → w.mode = .once → t.watch k = Watch.cleared)
      ∧ (delivered k → w.mode = .persist → t.watch k =
        { w with
          state := .armed, held := none
          lastMatched := s.flagWord w.flag &&& w.care == w.pattern &&& w.care }))
    ∧ t = { s with ports := t.ports, slots := t.slots, chains := t.chains, watches := t.watches }

/-- A notice about a job (R131, R137): discarded for a DOWN port, queued where the port has room, and otherwise the
mark of the record. The attention output of a port is asserted exactly while the queue of a port that is not DOWN
holds an event (R132). -/
def Obligations.JobNoticesAreQueuedOrOwed : Prop :=
  ∀ (s : State) (i : SlotId) (p : Port),
    (s.attention p = true ↔ (s.port p).state ≠ .down ∧ (s.port p).queue ≠ [])
    ∧ (∀ n : ConsumerNotice,
      ((s.port p).state = .down → s.notifyConsumer i p n = s)
      ∧ ((s.port p).state ≠ .down → (s.port p).queue.length < 32 → s.owed p = false →
        s.notifyConsumer i p n = s.modPort p fun r => { r with queue := r.queue ++ [n.event (s.handle i)] })
      ∧ ((s.port p).state ≠ .down → (32 ≤ (s.port p).queue.length ∨ s.owed p = true) →
        s.notifyConsumer i p n = s.modSlot i fun sl =>
          { sl with checkOk := true, consumerMarks := sl.consumerMarks.set p (some n) }))
    ∧ ∀ n : ProducerNotice,
      ((s.port p).state = .down → s.notifyProducer i p n = s)
      ∧ ((s.port p).state ≠ .down → (s.port p).queue.length < 32 → s.owed p = false →
        s.notifyProducer i p n = s.modPort p fun r => { r with queue := r.queue ++ [n.event (s.handle i)] })
      ∧ ((s.port p).state ≠ .down → (32 ≤ (s.port p).queue.length ∨ s.owed p = true) →
        s.notifyProducer i p n = s.modSlot i fun sl =>
          { sl with checkOk := true, producerMark := some ⟨p, n⟩ })

/-! ### Searching the store (chapter 9) -/

/-- QUERY (R164, R165, R166): of a sound record, the values of R166's table by state, to the manager, the producer, the
port that holds the job, and the lost holder of a quarantined one; NOT_OWNER to others. A record that fails its
test is quarantined first and the QUERY judged on the QUARANTINED slot (R14; FailingRecordIsQuarantined says what
the slot holds). The places of the response's bytes are deduced (log entry 10). -/
def Obligations.QueryReportsAVisibleJob : Prop :=
  ∀ (s : State) (p : Port) (q : Seq) (h : Handle), s.takes p q (handleBytes h) →
    s.admits p [.joined, .leaving] = true → s.handleOk h = true →
    let st := (s.slot h.slot).state
    let j := s.job h.slot
    let u := s.received p q (handleBytes h)
    let sees := s.manager = some p ∨ j.producer = some p ∨ (st = .offered ∨ st = .active) ∧ j.consumer = some p
      ∨ st = .quarantined ∧ j.lostHolder = some p
    let answered (data : List Byte) := exec (.query p q (handleBytes h)) s = .next (u.answer p ⟨.ok, data⟩)
    let common := num1 j.cls.val ++ num2 j.tag.toNat
    let full := portByte j.producer ++ yesNo j.report ++ num1 j.baseUrgency ++ num1 j.urgency
      ++ optByte (j.chain.map Prod.fst) ++ num1 j.attempts ++ num1 j.attemptLimit
    let held (d : Word) := portByte j.consumer ++ num2 (s.ticksTo d)
    (s.testFails h.slot = false → sees →
      (st = .quarantined → answered ([6] ++ common))
      ∧ (st = .queued → answered ([1] ++ common ++ full))
      ∧ (∀ d : Word, j.deadline = some d →
        (st = .offered → answered ([2] ++ common ++ full ++ held d))
        ∧ (st = .active → answered ([3] ++ common ++ full ++ held d ++ yesNo j.cancelRequested)))
      ∧ (∀ f : FinishStatus, st = .done → j.finish = some f →
        answered ([4] ++ common ++ full ++ [f.code] ++ optByte j.userCode)))
    ∧ (s.testFails h.slot = false → ¬ sees → exec (.query p q (handleBytes h)) s = .next (u.answer p ⟨.notOwner, []⟩))
    ∧ (s.testFails h.slot = true →
      let v := u.quarantine h.slot
      let keeps := s.manager = some p ∨ (v.job h.slot).producer = some p ∨ (v.job h.slot).lostHolder = some p
      (v.slot h.slot).state = .quarantined →
      (keeps → exec (.query p q (handleBytes h)) s = .next (v.close.answer p ⟨.ok,
        [6] ++ num1 (v.job h.slot).cls.val ++ num2 (v.job h.slot).tag.toNat⟩))
      ∧ (¬ keeps → exec (.query p q (handleBytes h)) s = .next (v.close.answer p ⟨.notOwner, []⟩)))

/-- FIND and CANCEL_MATCH taken (R163, R167, R168, R170): a scan record is made and the command stays in flight;
a CONTINUE with the cursor at 256 is answered at once with no handles and END. The places of the response's
bytes are deduced (log entry 10). -/
def Obligations.ScansBegin : Prop :=
  ∀ (s : State) (p : Port) (q : Seq) (ps : List Byte), s.takes p q ps →
    s.admits p [.joined, .leaving] = true →
    let u := s.received p q ps
    (∀ (a : FindParams) (i : SlotId), parseFind ps = some a →
      (a.continues = false ∧ i = 0 ∨ a.continues = true ∧ (s.port p).cursor = i.val) →
      exec (.find p q ps) s = .next (u.modPort p fun r =>
        { r with cursor := i.val, scan := some ⟨.find a.states [], a.cls, a.tagKey, a.care, i⟩ }))
    ∧ (∀ a : FindParams, parseFind ps = some a → a.continues = true → (s.port p).cursor = 256 →
      exec (.find p q ps) s = .next (u.answer p ⟨.ok, [0] ++ num2 256 ++ [1]⟩))
    ∧ (∀ a : MatchParams, parseCancelMatch ps = some a →
      ((s.port p).roles.producer = true ∨ s.manager = some p →
        exec (.cancelMatch p q ps) s = .next (u.modPort p fun r =>
          { r with scan := some ⟨.cancelMatch a.includeOffered 0, a.cls, a.tagKey, a.care, 0⟩ }))
      ∧ ((s.port p).roles.producer = false → s.manager ≠ some p →
        exec (.cancelMatch p q ps) s = .next (u.answer p ⟨.notPermitted, []⟩)))

/-- SCAN_VISIT (R163, R167, R169, R170): a record that fails its test is quarantined first, and the slot judged as the
read left it; a FIND adds the hit and moves the cursor, and stops at its eighth hit or at slot 255 with its
response; a CANCEL_MATCH cancels the hit as a CANCEL would and stops at slot 255 with its count, a hit there among
it. Without a scan, or at a departing port, there is no visit. That there is no visit without a scan is the model's
(log entry 7); the places of the bytes, and the byte of END, are as log entry 10 says; that a response is made
before the close, at which a drain may end, is the model's (log entry 20). -/
def Obligations.ScanVisitJudgesOneSlot : Prop :=
  ∀ (s : State) (p : Port), s.inReset = false →
    ((s.port p).scan = none ∨ (s.port p).departure.isSome = true → exec (.scanVisit p) s = .next s)
    ∧ ∀ sc : Scan, (s.port p).departure = none → (s.port p).scan = some sc → (s.port p).link.inFlight = true →
      let i := sc.next
      let v := if s.testFails i then s.quarantine i else s
      let st := (v.slot i).state
      let j := v.job i
      let answers := (sc.cls = none ∨ sc.cls = some j.cls) ∧ j.tag &&& sc.care = sc.tagKey &&& sc.care
      let goesOn (t : State) (k : ScanKind) (n : Nat) := t.modPort p fun r =>
        { r with cursor := n, scan := some { sc with kind := k, next := i + 1 } }
      let stops (t : State) (n : Nat) (data : List Byte) :=
        (t.modPort p fun r => { r with cursor := n, scan := none }).answer p ⟨.ok, data⟩
      (∀ (ss : StateSet) (hits : List (Handle × SlotState)), sc.kind = .find ss hits →
        ∀ found : List (Handle × SlotState),
        (ss.has st = true ∧ answers ∧ v.visible i p = true ∧ found = hits ++ [(s.handle i, st)]
          ∨ ¬ (ss.has st = true ∧ answers ∧ v.visible i p = true) ∧ found = hits) →
        (found.length = 8 ∨ i.val = 255 → exec (.scanVisit p) s = .next (stops v (i.val + 1)
          (num1 found.length ++ found.flatMap (fun x => handleBytes x.1 ++ [x.2.code]) ++ num2 (i.val + 1)
            ++ [if i.val = 255 then 1 else 0])).close)
        ∧ (found.length ≠ 8 → i.val < 255 →
          exec (.scanVisit p) s = .next (goesOn v (.find ss found) (i.val + 1)).close))
      ∧ ∀ (incl : Bool) (n : Nat), sc.kind = .cancelMatch incl n →
        let hit := (st = .queued ∨ st = .offered ∧ incl = true) ∧ answers
          ∧ (s.manager = some p ∨ j.producer = some p)
        (¬ hit → (i.val < 255 → exec (.scanVisit p) s = .next (goesOn v sc.kind (s.port p).cursor).close)
          ∧ (i.val = 255 → exec (.scanVisit p) s = .next (stops v (s.port p).cursor (num2 n)).close))
        ∧ (hit → st = .queued → i.val < 255 → exec (.scanVisit p) s = .next
          (goesOn (v.finishJob i .cancelled) (.cancelMatch incl (n + 1)) (s.port p).cursor).close)
        ∧ (hit → st = .offered → i.val < 255 → exec (.scanVisit p) s = .next
          (goesOn (v.cancelOffered i) (.cancelMatch incl (n + 1)) (s.port p).cursor).close)
        ∧ (hit → i.val = 255 →
          (st = .queued → exec (.scanVisit p) s =
            .next (stops (v.finishJob i .cancelled) (s.port p).cursor (num2 (n + 1))).close)
          ∧ (st = .offered → exec (.scanVisit p) s =
            .next (stops (v.cancelOffered i) (s.port p).cursor (num2 (n + 1))).close))

/-! ### Device control (chapter 10) -/

/-- The settings of the manager (R179, R181, R182, R183, R184, R185) as the manager's own commands make them:
HOLD with its notices, class pause, the tick divisor and prescaler, a port's quota, the orphan policy, and a
class row under HOLD. The places of the bytes and the fate of due promotions are the model's (log entries 10 and
4). -/
def Obligations.ManagerSettings : Prop :=
  ∀ (s : State) (p : Port) (q : Seq) (ps : List Byte), s.takes p q ps →
    s.admits p [.joined, .leaving] = true → s.manager = some p →
    let u := s.received p q ps
    let done (i : Instr) (t : State) (data : List Byte) := exec i s = .next (t.answer p ⟨.ok, data⟩)
    (ps = [] →
      (s.hold = false → done (.hold p q ps) ({ u with hold := true }.notifyJoined .holdOn) [1]
        ∧ done (.resume p q ps) u [0])
      ∧ (s.hold = true → done (.hold p q ps) u [0]
        ∧ done (.resume p q ps) ({ u with hold := false }.notifyJoined .holdOff) [1]))
    ∧ (∀ c : ClassId, ps = num1 c.val →
      done (.pauseClass p q ps) { u with paused := s.paused.set c true } (num1 c.val ++ yesNo (s.isPaused c))
      ∧ done (.unpauseClass p q ps) { u with paused := s.paused.set c false } (num1 c.val ++ yesNo (s.isPaused c)))
    ∧ (∀ d : Nat, ps = num2 d → 1 ≤ d → d ≤ 65535 →
      done (.setTickDivisor p q ps) { u with divisor := d, prescaler := 0 } (num2 s.divisor ++ num2 d))
    ∧ (∀ (x : Port) (n : Nat), ps = num1 x.val ++ num2 n → n ≤ 256 →
      done (.setQuota p q ps) (u.modPort x fun r => { r with quota := n })
        (num1 x.val ++ num2 (s.port x).quota ++ num2 n ++ num2 (s.port x).quotaCount))
    ∧ (∀ o : OrphanPolicy, ps = [o.code] →
      done (.setOrphanPolicy p q ps) { u with orphanPolicy := o } [s.orphanPolicy.code, o.code])
    ∧ ∀ (c : ClassId) (r : ClassPolicy), parsePolicy ps = some (c, r) →
      (s.hold = false → exec (.setClassPolicy p q ps) s = .next (u.answer p ⟨.holdRequired, []⟩))
      ∧ (s.hold = true → ∃ t : State,
        done (.setClassPolicy p q ps) t (num1 c.val ++ (s.policyOf c).bytes ++ r.bytes)
        ∧ (∀ x : ClassId, t.policyOf x = if x = c then r else s.policyOf x)
        ∧ (∀ i : SlotId, (t.slot i).state = (s.slot i).state ∧ (t.slot i).gen = (s.slot i).gen
          ∧ (t.slot i).job = (s.slot i).job)
        ∧ t = { u with policy := t.policy, slots := t.slots })

/-- CLEAR_ALL (R186 with R19, R43, R70, R92, R128, R143, R162, R172): every job ends, the store, queues and chains
are empty, sessions and the flag words are kept, drains end, scans are interrupted with their hits and cursor or
their count so far, owed marks and hits are discarded. The missed count of an ended drain, and cleared values, are
the model's (log entries 18, 17 and 10). That a port whose scan's command is no longer in flight keeps its link, with
no response made, is deduced (log entry 19). -/
def Obligations.ClearAllEmptiesTheStore : Prop :=
  ∀ (s : State) (p : Port) (q : Seq), s.takes p q [] → s.admits p [.joined, .leaving] = true →
    s.manager = some p →
    let u := s.received p q []
    let draining (x : Port) := (s.port x).state = .leaving ∧ (s.port x).departure = none
    ∃ t : State, exec (.clearAll p q []) s = .next (t.answer p ⟨.ok,
        num2 (256 - s.countState .free) ++ num1 (allPorts.countP fun x => (s.port x).scan.isSome)
          ++ num1 (allPorts.countP fun x => (s.port x).state == .joined || (s.port x).state == .leaving)⟩)
      ∧ (∀ i : SlotId, t.slot i =
        Slot.empty (if (s.slot i).state = .free then (s.slot i).gen else (s.slot i).gen + 1))
      ∧ t.freeList = List.finRange 256 ∧ (∀ c : ClassId, t.classQueue c = []) ∧ t.seqCounter = 0
      ∧ (∀ e : ChainId, t.chain e = ChainEntry.cleared)
      ∧ (∀ x : Port, (t.port x).notices = NoticeSet.clear ∧ (t.port x).workingSet = [] ∧ (t.port x).quotaCount = 0
        ∧ (t.port x).scan = none ∧ (t.port x).quota = (s.port x).quota
        ∧ (t.port x).departure = (s.port x).departure ∧ (t.port x).prst = (s.port x).prst
        ∧ (t.port x).queue = if (s.port x).state = .joined ∨ (s.port x).state = .leaving then
            [.portNotice .cleared] else [])
      ∧ (∀ x : Port, ¬ draining x → (t.port x).state = (s.port x).state ∧ (t.port x).roles = (s.port x).roles
        ∧ (t.port x).credits = (s.port x).credits ∧ (t.port x).mask = (s.port x).mask
        ∧ (t.port x).floor = (s.port x).floor ∧ (t.port x).latch = (s.port x).latch
        ∧ (t.port x).cursor = (s.port x).cursor)
      ∧ (∀ x : Port, draining x → (t.port x).state = .idle ∧ (t.port x).roles = Roles.absent
        ∧ (t.port x).credits = 0 ∧ (t.port x).mask = 0 ∧ (t.port x).floor = 0 ∧ (t.port x).latch = none
        ∧ (t.port x).cursor = 0 ∧ (t.port x).missed = 0 ∧ (t.port x).stalled = false)
      ∧ (∀ x : Port, x ≠ p → (s.port x).scan = none ∨ (s.port x).link.inFlight = false →
        (t.port x).link = (s.port x).link)
      ∧ (∀ (x : Port) (sc : Scan), x ≠ p → (s.port x).scan = some sc → (s.port x).link.inFlight = true →
        let r : Resp := ⟨(s.port x).link.lastSeq.getD 0, .interrupted, match sc.kind with
          | .find _ hits => num1 hits.length ++ hits.flatMap (fun h => handleBytes h.1 ++ [h.2.code])
              ++ num2 (s.port x).cursor
          | .cancelMatch _ n => num2 n⟩
        (t.port x).link = { (s.port x).link with inFlight := false, buffer := some r, cached := some r })
      ∧ (∀ k : WatchId, (∀ x : Port, (s.watch k).owner = some x → ¬ draining x) →
        ((s.watch k).state ≠ .pending → t.watch k = s.watch k)
        ∧ ((s.watch k).state = .pending → (s.watch k).mode = .once → t.watch k = Watch.cleared)
        ∧ ((s.watch k).state = .pending → (s.watch k).mode = .persist →
          t.watch k = { s.watch k with
            state := .armed, held := none
            lastMatched := (s.watch k).matchesValue (s.flagWord (s.watch k).flag) }))
      ∧ (∀ (k : WatchId) (x : Port), (s.watch k).state ≠ .free → (s.watch k).owner = some x → draining x →
        t.watch k = Watch.cleared)
      ∧ (∀ x : Port, t.owed x = false)
      ∧ t = { u with
          ports := t.ports, slots := t.slots, freeList := t.freeList, classQueues := t.classQueues
          seqCounter := t.seqCounter, chains := t.chains, watches := t.watches }

/-! ### Laws that every step keeps -/

/-- No event queue ever holds more than 32 records (R130). -/
def Obligations.StepKeepsTheQueueBound : Prop :=
  ∀ s t : State, s.queuesFit → step s = .next t → t.queuesFit

/-- The manager is a JOINED port, HOLD is on only under a manager, and a departing port is LEAVING, after every
step that starts so (R154, R159, R160, R182). -/
def Obligations.StepKeepsTheClaimLaw : Prop :=
  ∀ s t : State, s.claimLaw → step s = .next t → t.claimLaw

/-- Generations (R4, R19, R18): in every step but RESET_N_ASSERT, a slot that enters FREE from another state has
the next generation, and a slot that is not FREE after the step keeps the generation it had; after power-on every
generation is 0. (Of a slot that is FREE before and after a step nothing is said.) -/
def Obligations.GenerationsChangeAtFreeAlone : Prop :=
  (∀ (s t : State) (i : SlotId), s.pending.head? ≠ some .resetNAssert → step s = .next t →
    ((s.slot i).state ≠ .free → (t.slot i).state = .free → (t.slot i).gen = (s.slot i).gen + 1)
    ∧ ((t.slot i).state ≠ .free → (t.slot i).gen = (s.slot i).gen))
  ∧ ∀ (s t : State) (i : SlotId), exec .resetNAssert s = .next t → (t.slot i).gen = 0
end

