-- ==== Sys2Proof/Laws/State.lean ====
section
/-! SUPPORT. One lemma for each field and each update of one record: an update of one kind of record leaves
every other kind alone, and what reading the updated record gives. -/

namespace Sys2Proof.Machine

/-! ### modPort -/

@[simp] theorem State.modPort_inReset (s : State) (p : Port) (f : PortRec → PortRec) : (s.modPort p f).inReset = s.inReset := rfl

@[simp] theorem State.modPort_slots (s : State) (p : Port) (f : PortRec → PortRec) : (s.modPort p f).slots = s.slots := rfl

@[simp] theorem State.modPort_freeList (s : State) (p : Port) (f : PortRec → PortRec) : (s.modPort p f).freeList = s.freeList := rfl

@[simp] theorem State.modPort_classQueues (s : State) (p : Port) (f : PortRec → PortRec) : (s.modPort p f).classQueues = s.classQueues := rfl

@[simp] theorem State.modPort_seqCounter (s : State) (p : Port) (f : PortRec → PortRec) : (s.modPort p f).seqCounter = s.seqCounter := rfl

@[simp] theorem State.modPort_chains (s : State) (p : Port) (f : PortRec → PortRec) : (s.modPort p f).chains = s.chains := rfl

@[simp] theorem State.modPort_classPtr (s : State) (p : Port) (f : PortRec → PortRec) : (s.modPort p f).classPtr = s.classPtr := rfl

@[simp] theorem State.modPort_portPtr (s : State) (p : Port) (f : PortRec → PortRec) : (s.modPort p f).portPtr = s.portPtr := rfl

@[simp] theorem State.modPort_hold (s : State) (p : Port) (f : PortRec → PortRec) : (s.modPort p f).hold = s.hold := rfl

@[simp] theorem State.modPort_paused (s : State) (p : Port) (f : PortRec → PortRec) : (s.modPort p f).paused = s.paused := rfl

@[simp] theorem State.modPort_words (s : State) (p : Port) (f : PortRec → PortRec) : (s.modPort p f).words = s.words := rfl

@[simp] theorem State.modPort_watches (s : State) (p : Port) (f : PortRec → PortRec) : (s.modPort p f).watches = s.watches := rfl

@[simp] theorem State.modPort_manager (s : State) (p : Port) (f : PortRec → PortRec) : (s.modPort p f).manager = s.manager := rfl

@[simp] theorem State.modPort_timeBase (s : State) (p : Port) (f : PortRec → PortRec) : (s.modPort p f).timeBase = s.timeBase := rfl

@[simp] theorem State.modPort_prescaler (s : State) (p : Port) (f : PortRec → PortRec) : (s.modPort p f).prescaler = s.prescaler := rfl

@[simp] theorem State.modPort_divisor (s : State) (p : Port) (f : PortRec → PortRec) : (s.modPort p f).divisor = s.divisor := rfl

@[simp] theorem State.modPort_policy (s : State) (p : Port) (f : PortRec → PortRec) : (s.modPort p f).policy = s.policy := rfl

@[simp] theorem State.modPort_orphanPolicy (s : State) (p : Port) (f : PortRec → PortRec) : (s.modPort p f).orphanPolicy = s.orphanPolicy := rfl

@[simp] theorem State.modPort_pending (s : State) (p : Port) (f : PortRec → PortRec) : (s.modPort p f).pending = s.pending := rfl

@[simp] theorem State.modPort_slot (s : State) (p : Port) (f : PortRec → PortRec) (x : SlotId) :
    (s.modPort p f).slot x = s.slot x := rfl

@[simp] theorem State.modPort_job (s : State) (p : Port) (f : PortRec → PortRec) (x : SlotId) :
    (s.modPort p f).job x = s.job x := rfl

@[simp] theorem State.modPort_handle (s : State) (p : Port) (f : PortRec → PortRec) (x : SlotId) :
    (s.modPort p f).handle x = s.handle x := rfl

@[simp] theorem State.modPort_chain (s : State) (p : Port) (f : PortRec → PortRec) (x : ChainId) :
    (s.modPort p f).chain x = s.chain x := rfl

@[simp] theorem State.modPort_watch (s : State) (p : Port) (f : PortRec → PortRec) (x : WatchId) :
    (s.modPort p f).watch x = s.watch x := rfl

@[simp] theorem State.modPort_flagWord (s : State) (p : Port) (f : PortRec → PortRec) (x : FlagId) :
    (s.modPort p f).flagWord x = s.flagWord x := rfl

@[simp] theorem State.modPort_classQueue (s : State) (p : Port) (f : PortRec → PortRec) (x : ClassId) :
    (s.modPort p f).classQueue x = s.classQueue x := rfl

@[simp] theorem State.modPort_policyOf (s : State) (p : Port) (f : PortRec → PortRec) (x : ClassId) :
    (s.modPort p f).policyOf x = s.policyOf x := rfl

@[simp] theorem State.modPort_isPaused (s : State) (p : Port) (f : PortRec → PortRec) (x : ClassId) :
    (s.modPort p f).isPaused x = s.isPaused x := rfl

/-! ### modSlot -/

@[simp] theorem State.modSlot_inReset (s : State) (i : SlotId) (f : Slot → Slot) : (s.modSlot i f).inReset = s.inReset := rfl

@[simp] theorem State.modSlot_ports (s : State) (i : SlotId) (f : Slot → Slot) : (s.modSlot i f).ports = s.ports := rfl

@[simp] theorem State.modSlot_freeList (s : State) (i : SlotId) (f : Slot → Slot) : (s.modSlot i f).freeList = s.freeList := rfl

@[simp] theorem State.modSlot_classQueues (s : State) (i : SlotId) (f : Slot → Slot) : (s.modSlot i f).classQueues = s.classQueues := rfl

@[simp] theorem State.modSlot_seqCounter (s : State) (i : SlotId) (f : Slot → Slot) : (s.modSlot i f).seqCounter = s.seqCounter := rfl

@[simp] theorem State.modSlot_chains (s : State) (i : SlotId) (f : Slot → Slot) : (s.modSlot i f).chains = s.chains := rfl

@[simp] theorem State.modSlot_classPtr (s : State) (i : SlotId) (f : Slot → Slot) : (s.modSlot i f).classPtr = s.classPtr := rfl

@[simp] theorem State.modSlot_portPtr (s : State) (i : SlotId) (f : Slot → Slot) : (s.modSlot i f).portPtr = s.portPtr := rfl

@[simp] theorem State.modSlot_hold (s : State) (i : SlotId) (f : Slot → Slot) : (s.modSlot i f).hold = s.hold := rfl

@[simp] theorem State.modSlot_paused (s : State) (i : SlotId) (f : Slot → Slot) : (s.modSlot i f).paused = s.paused := rfl

@[simp] theorem State.modSlot_words (s : State) (i : SlotId) (f : Slot → Slot) : (s.modSlot i f).words = s.words := rfl

@[simp] theorem State.modSlot_watches (s : State) (i : SlotId) (f : Slot → Slot) : (s.modSlot i f).watches = s.watches := rfl

@[simp] theorem State.modSlot_manager (s : State) (i : SlotId) (f : Slot → Slot) : (s.modSlot i f).manager = s.manager := rfl

@[simp] theorem State.modSlot_timeBase (s : State) (i : SlotId) (f : Slot → Slot) : (s.modSlot i f).timeBase = s.timeBase := rfl

@[simp] theorem State.modSlot_prescaler (s : State) (i : SlotId) (f : Slot → Slot) : (s.modSlot i f).prescaler = s.prescaler := rfl

@[simp] theorem State.modSlot_divisor (s : State) (i : SlotId) (f : Slot → Slot) : (s.modSlot i f).divisor = s.divisor := rfl

@[simp] theorem State.modSlot_policy (s : State) (i : SlotId) (f : Slot → Slot) : (s.modSlot i f).policy = s.policy := rfl

@[simp] theorem State.modSlot_orphanPolicy (s : State) (i : SlotId) (f : Slot → Slot) : (s.modSlot i f).orphanPolicy = s.orphanPolicy := rfl

@[simp] theorem State.modSlot_pending (s : State) (i : SlotId) (f : Slot → Slot) : (s.modSlot i f).pending = s.pending := rfl

@[simp] theorem State.modSlot_port (s : State) (i : SlotId) (f : Slot → Slot) (x : Port) :
    (s.modSlot i f).port x = s.port x := rfl

@[simp] theorem State.modSlot_chain (s : State) (i : SlotId) (f : Slot → Slot) (x : ChainId) :
    (s.modSlot i f).chain x = s.chain x := rfl

@[simp] theorem State.modSlot_watch (s : State) (i : SlotId) (f : Slot → Slot) (x : WatchId) :
    (s.modSlot i f).watch x = s.watch x := rfl

@[simp] theorem State.modSlot_flagWord (s : State) (i : SlotId) (f : Slot → Slot) (x : FlagId) :
    (s.modSlot i f).flagWord x = s.flagWord x := rfl

@[simp] theorem State.modSlot_classQueue (s : State) (i : SlotId) (f : Slot → Slot) (x : ClassId) :
    (s.modSlot i f).classQueue x = s.classQueue x := rfl

@[simp] theorem State.modSlot_policyOf (s : State) (i : SlotId) (f : Slot → Slot) (x : ClassId) :
    (s.modSlot i f).policyOf x = s.policyOf x := rfl

@[simp] theorem State.modSlot_isPaused (s : State) (i : SlotId) (f : Slot → Slot) (x : ClassId) :
    (s.modSlot i f).isPaused x = s.isPaused x := rfl

/-! ### modChain -/

@[simp] theorem State.modChain_inReset (s : State) (e : ChainId) (f : ChainEntry → ChainEntry) : (s.modChain e f).inReset = s.inReset := rfl

@[simp] theorem State.modChain_ports (s : State) (e : ChainId) (f : ChainEntry → ChainEntry) : (s.modChain e f).ports = s.ports := rfl

@[simp] theorem State.modChain_slots (s : State) (e : ChainId) (f : ChainEntry → ChainEntry) : (s.modChain e f).slots = s.slots := rfl

@[simp] theorem State.modChain_freeList (s : State) (e : ChainId) (f : ChainEntry → ChainEntry) : (s.modChain e f).freeList = s.freeList := rfl

@[simp] theorem State.modChain_classQueues (s : State) (e : ChainId) (f : ChainEntry → ChainEntry) : (s.modChain e f).classQueues = s.classQueues := rfl

@[simp] theorem State.modChain_seqCounter (s : State) (e : ChainId) (f : ChainEntry → ChainEntry) : (s.modChain e f).seqCounter = s.seqCounter := rfl

@[simp] theorem State.modChain_classPtr (s : State) (e : ChainId) (f : ChainEntry → ChainEntry) : (s.modChain e f).classPtr = s.classPtr := rfl

@[simp] theorem State.modChain_portPtr (s : State) (e : ChainId) (f : ChainEntry → ChainEntry) : (s.modChain e f).portPtr = s.portPtr := rfl

@[simp] theorem State.modChain_hold (s : State) (e : ChainId) (f : ChainEntry → ChainEntry) : (s.modChain e f).hold = s.hold := rfl

@[simp] theorem State.modChain_paused (s : State) (e : ChainId) (f : ChainEntry → ChainEntry) : (s.modChain e f).paused = s.paused := rfl

@[simp] theorem State.modChain_words (s : State) (e : ChainId) (f : ChainEntry → ChainEntry) : (s.modChain e f).words = s.words := rfl

@[simp] theorem State.modChain_watches (s : State) (e : ChainId) (f : ChainEntry → ChainEntry) : (s.modChain e f).watches = s.watches := rfl

@[simp] theorem State.modChain_manager (s : State) (e : ChainId) (f : ChainEntry → ChainEntry) : (s.modChain e f).manager = s.manager := rfl

@[simp] theorem State.modChain_timeBase (s : State) (e : ChainId) (f : ChainEntry → ChainEntry) : (s.modChain e f).timeBase = s.timeBase := rfl

@[simp] theorem State.modChain_prescaler (s : State) (e : ChainId) (f : ChainEntry → ChainEntry) : (s.modChain e f).prescaler = s.prescaler := rfl

@[simp] theorem State.modChain_divisor (s : State) (e : ChainId) (f : ChainEntry → ChainEntry) : (s.modChain e f).divisor = s.divisor := rfl

@[simp] theorem State.modChain_policy (s : State) (e : ChainId) (f : ChainEntry → ChainEntry) : (s.modChain e f).policy = s.policy := rfl

@[simp] theorem State.modChain_orphanPolicy (s : State) (e : ChainId) (f : ChainEntry → ChainEntry) : (s.modChain e f).orphanPolicy = s.orphanPolicy := rfl

@[simp] theorem State.modChain_pending (s : State) (e : ChainId) (f : ChainEntry → ChainEntry) : (s.modChain e f).pending = s.pending := rfl

@[simp] theorem State.modChain_port (s : State) (e : ChainId) (f : ChainEntry → ChainEntry) (x : Port) :
    (s.modChain e f).port x = s.port x := rfl

@[simp] theorem State.modChain_slot (s : State) (e : ChainId) (f : ChainEntry → ChainEntry) (x : SlotId) :
    (s.modChain e f).slot x = s.slot x := rfl

@[simp] theorem State.modChain_job (s : State) (e : ChainId) (f : ChainEntry → ChainEntry) (x : SlotId) :
    (s.modChain e f).job x = s.job x := rfl

@[simp] theorem State.modChain_handle (s : State) (e : ChainId) (f : ChainEntry → ChainEntry) (x : SlotId) :
    (s.modChain e f).handle x = s.handle x := rfl

@[simp] theorem State.modChain_watch (s : State) (e : ChainId) (f : ChainEntry → ChainEntry) (x : WatchId) :
    (s.modChain e f).watch x = s.watch x := rfl

@[simp] theorem State.modChain_flagWord (s : State) (e : ChainId) (f : ChainEntry → ChainEntry) (x : FlagId) :
    (s.modChain e f).flagWord x = s.flagWord x := rfl

@[simp] theorem State.modChain_classQueue (s : State) (e : ChainId) (f : ChainEntry → ChainEntry) (x : ClassId) :
    (s.modChain e f).classQueue x = s.classQueue x := rfl

@[simp] theorem State.modChain_policyOf (s : State) (e : ChainId) (f : ChainEntry → ChainEntry) (x : ClassId) :
    (s.modChain e f).policyOf x = s.policyOf x := rfl

@[simp] theorem State.modChain_isPaused (s : State) (e : ChainId) (f : ChainEntry → ChainEntry) (x : ClassId) :
    (s.modChain e f).isPaused x = s.isPaused x := rfl

/-! ### modWatch -/

@[simp] theorem State.modWatch_inReset (s : State) (k : WatchId) (f : Watch → Watch) : (s.modWatch k f).inReset = s.inReset := rfl

@[simp] theorem State.modWatch_ports (s : State) (k : WatchId) (f : Watch → Watch) : (s.modWatch k f).ports = s.ports := rfl

@[simp] theorem State.modWatch_slots (s : State) (k : WatchId) (f : Watch → Watch) : (s.modWatch k f).slots = s.slots := rfl

@[simp] theorem State.modWatch_freeList (s : State) (k : WatchId) (f : Watch → Watch) : (s.modWatch k f).freeList = s.freeList := rfl

@[simp] theorem State.modWatch_classQueues (s : State) (k : WatchId) (f : Watch → Watch) : (s.modWatch k f).classQueues = s.classQueues := rfl

@[simp] theorem State.modWatch_seqCounter (s : State) (k : WatchId) (f : Watch → Watch) : (s.modWatch k f).seqCounter = s.seqCounter := rfl

@[simp] theorem State.modWatch_chains (s : State) (k : WatchId) (f : Watch → Watch) : (s.modWatch k f).chains = s.chains := rfl

@[simp] theorem State.modWatch_classPtr (s : State) (k : WatchId) (f : Watch → Watch) : (s.modWatch k f).classPtr = s.classPtr := rfl

@[simp] theorem State.modWatch_portPtr (s : State) (k : WatchId) (f : Watch → Watch) : (s.modWatch k f).portPtr = s.portPtr := rfl

@[simp] theorem State.modWatch_hold (s : State) (k : WatchId) (f : Watch → Watch) : (s.modWatch k f).hold = s.hold := rfl

@[simp] theorem State.modWatch_paused (s : State) (k : WatchId) (f : Watch → Watch) : (s.modWatch k f).paused = s.paused := rfl

@[simp] theorem State.modWatch_words (s : State) (k : WatchId) (f : Watch → Watch) : (s.modWatch k f).words = s.words := rfl

@[simp] theorem State.modWatch_manager (s : State) (k : WatchId) (f : Watch → Watch) : (s.modWatch k f).manager = s.manager := rfl

@[simp] theorem State.modWatch_timeBase (s : State) (k : WatchId) (f : Watch → Watch) : (s.modWatch k f).timeBase = s.timeBase := rfl

@[simp] theorem State.modWatch_prescaler (s : State) (k : WatchId) (f : Watch → Watch) : (s.modWatch k f).prescaler = s.prescaler := rfl

@[simp] theorem State.modWatch_divisor (s : State) (k : WatchId) (f : Watch → Watch) : (s.modWatch k f).divisor = s.divisor := rfl

@[simp] theorem State.modWatch_policy (s : State) (k : WatchId) (f : Watch → Watch) : (s.modWatch k f).policy = s.policy := rfl

@[simp] theorem State.modWatch_orphanPolicy (s : State) (k : WatchId) (f : Watch → Watch) : (s.modWatch k f).orphanPolicy = s.orphanPolicy := rfl

@[simp] theorem State.modWatch_pending (s : State) (k : WatchId) (f : Watch → Watch) : (s.modWatch k f).pending = s.pending := rfl

@[simp] theorem State.modWatch_port (s : State) (k : WatchId) (f : Watch → Watch) (x : Port) :
    (s.modWatch k f).port x = s.port x := rfl

@[simp] theorem State.modWatch_slot (s : State) (k : WatchId) (f : Watch → Watch) (x : SlotId) :
    (s.modWatch k f).slot x = s.slot x := rfl

@[simp] theorem State.modWatch_job (s : State) (k : WatchId) (f : Watch → Watch) (x : SlotId) :
    (s.modWatch k f).job x = s.job x := rfl

@[simp] theorem State.modWatch_handle (s : State) (k : WatchId) (f : Watch → Watch) (x : SlotId) :
    (s.modWatch k f).handle x = s.handle x := rfl

@[simp] theorem State.modWatch_chain (s : State) (k : WatchId) (f : Watch → Watch) (x : ChainId) :
    (s.modWatch k f).chain x = s.chain x := rfl

@[simp] theorem State.modWatch_flagWord (s : State) (k : WatchId) (f : Watch → Watch) (x : FlagId) :
    (s.modWatch k f).flagWord x = s.flagWord x := rfl

@[simp] theorem State.modWatch_classQueue (s : State) (k : WatchId) (f : Watch → Watch) (x : ClassId) :
    (s.modWatch k f).classQueue x = s.classQueue x := rfl

@[simp] theorem State.modWatch_policyOf (s : State) (k : WatchId) (f : Watch → Watch) (x : ClassId) :
    (s.modWatch k f).policyOf x = s.policyOf x := rfl

@[simp] theorem State.modWatch_isPaused (s : State) (k : WatchId) (f : Watch → Watch) (x : ClassId) :
    (s.modWatch k f).isPaused x = s.isPaused x := rfl

/-! ### modQueue -/

@[simp] theorem State.modQueue_inReset (s : State) (c : ClassId) (f : List SlotId → List SlotId) : (s.modQueue c f).inReset = s.inReset := rfl

@[simp] theorem State.modQueue_ports (s : State) (c : ClassId) (f : List SlotId → List SlotId) : (s.modQueue c f).ports = s.ports := rfl

@[simp] theorem State.modQueue_slots (s : State) (c : ClassId) (f : List SlotId → List SlotId) : (s.modQueue c f).slots = s.slots := rfl

@[simp] theorem State.modQueue_freeList (s : State) (c : ClassId) (f : List SlotId → List SlotId) : (s.modQueue c f).freeList = s.freeList := rfl

@[simp] theorem State.modQueue_seqCounter (s : State) (c : ClassId) (f : List SlotId → List SlotId) : (s.modQueue c f).seqCounter = s.seqCounter := rfl

@[simp] theorem State.modQueue_chains (s : State) (c : ClassId) (f : List SlotId → List SlotId) : (s.modQueue c f).chains = s.chains := rfl

@[simp] theorem State.modQueue_classPtr (s : State) (c : ClassId) (f : List SlotId → List SlotId) : (s.modQueue c f).classPtr = s.classPtr := rfl

@[simp] theorem State.modQueue_portPtr (s : State) (c : ClassId) (f : List SlotId → List SlotId) : (s.modQueue c f).portPtr = s.portPtr := rfl

@[simp] theorem State.modQueue_hold (s : State) (c : ClassId) (f : List SlotId → List SlotId) : (s.modQueue c f).hold = s.hold := rfl

@[simp] theorem State.modQueue_paused (s : State) (c : ClassId) (f : List SlotId → List SlotId) : (s.modQueue c f).paused = s.paused := rfl

@[simp] theorem State.modQueue_words (s : State) (c : ClassId) (f : List SlotId → List SlotId) : (s.modQueue c f).words = s.words := rfl

@[simp] theorem State.modQueue_watches (s : State) (c : ClassId) (f : List SlotId → List SlotId) : (s.modQueue c f).watches = s.watches := rfl

@[simp] theorem State.modQueue_manager (s : State) (c : ClassId) (f : List SlotId → List SlotId) : (s.modQueue c f).manager = s.manager := rfl

@[simp] theorem State.modQueue_timeBase (s : State) (c : ClassId) (f : List SlotId → List SlotId) : (s.modQueue c f).timeBase = s.timeBase := rfl

@[simp] theorem State.modQueue_prescaler (s : State) (c : ClassId) (f : List SlotId → List SlotId) : (s.modQueue c f).prescaler = s.prescaler := rfl

@[simp] theorem State.modQueue_divisor (s : State) (c : ClassId) (f : List SlotId → List SlotId) : (s.modQueue c f).divisor = s.divisor := rfl

@[simp] theorem State.modQueue_policy (s : State) (c : ClassId) (f : List SlotId → List SlotId) : (s.modQueue c f).policy = s.policy := rfl

@[simp] theorem State.modQueue_orphanPolicy (s : State) (c : ClassId) (f : List SlotId → List SlotId) : (s.modQueue c f).orphanPolicy = s.orphanPolicy := rfl

@[simp] theorem State.modQueue_pending (s : State) (c : ClassId) (f : List SlotId → List SlotId) : (s.modQueue c f).pending = s.pending := rfl

@[simp] theorem State.modQueue_port (s : State) (c : ClassId) (f : List SlotId → List SlotId) (x : Port) :
    (s.modQueue c f).port x = s.port x := rfl

@[simp] theorem State.modQueue_slot (s : State) (c : ClassId) (f : List SlotId → List SlotId) (x : SlotId) :
    (s.modQueue c f).slot x = s.slot x := rfl

@[simp] theorem State.modQueue_job (s : State) (c : ClassId) (f : List SlotId → List SlotId) (x : SlotId) :
    (s.modQueue c f).job x = s.job x := rfl

@[simp] theorem State.modQueue_handle (s : State) (c : ClassId) (f : List SlotId → List SlotId) (x : SlotId) :
    (s.modQueue c f).handle x = s.handle x := rfl

@[simp] theorem State.modQueue_chain (s : State) (c : ClassId) (f : List SlotId → List SlotId) (x : ChainId) :
    (s.modQueue c f).chain x = s.chain x := rfl

@[simp] theorem State.modQueue_watch (s : State) (c : ClassId) (f : List SlotId → List SlotId) (x : WatchId) :
    (s.modQueue c f).watch x = s.watch x := rfl

@[simp] theorem State.modQueue_flagWord (s : State) (c : ClassId) (f : List SlotId → List SlotId) (x : FlagId) :
    (s.modQueue c f).flagWord x = s.flagWord x := rfl

@[simp] theorem State.modQueue_policyOf (s : State) (c : ClassId) (f : List SlotId → List SlotId) (x : ClassId) :
    (s.modQueue c f).policyOf x = s.policyOf x := rfl

@[simp] theorem State.modQueue_isPaused (s : State) (c : ClassId) (f : List SlotId → List SlotId) (x : ClassId) :
    (s.modQueue c f).isPaused x = s.isPaused x := rfl

/-! ### writeSlot -/

@[simp] theorem State.writeSlot_inReset (s : State) (i : SlotId) (f : Slot → Slot) : (s.writeSlot i f).inReset = s.inReset := rfl

@[simp] theorem State.writeSlot_ports (s : State) (i : SlotId) (f : Slot → Slot) : (s.writeSlot i f).ports = s.ports := rfl

@[simp] theorem State.writeSlot_freeList (s : State) (i : SlotId) (f : Slot → Slot) : (s.writeSlot i f).freeList = s.freeList := rfl

@[simp] theorem State.writeSlot_classQueues (s : State) (i : SlotId) (f : Slot → Slot) : (s.writeSlot i f).classQueues = s.classQueues := rfl

@[simp] theorem State.writeSlot_seqCounter (s : State) (i : SlotId) (f : Slot → Slot) : (s.writeSlot i f).seqCounter = s.seqCounter := rfl

@[simp] theorem State.writeSlot_chains (s : State) (i : SlotId) (f : Slot → Slot) : (s.writeSlot i f).chains = s.chains := rfl

@[simp] theorem State.writeSlot_classPtr (s : State) (i : SlotId) (f : Slot → Slot) : (s.writeSlot i f).classPtr = s.classPtr := rfl

@[simp] theorem State.writeSlot_portPtr (s : State) (i : SlotId) (f : Slot → Slot) : (s.writeSlot i f).portPtr = s.portPtr := rfl

@[simp] theorem State.writeSlot_hold (s : State) (i : SlotId) (f : Slot → Slot) : (s.writeSlot i f).hold = s.hold := rfl

@[simp] theorem State.writeSlot_paused (s : State) (i : SlotId) (f : Slot → Slot) : (s.writeSlot i f).paused = s.paused := rfl

@[simp] theorem State.writeSlot_words (s : State) (i : SlotId) (f : Slot → Slot) : (s.writeSlot i f).words = s.words := rfl

@[simp] theorem State.writeSlot_watches (s : State) (i : SlotId) (f : Slot → Slot) : (s.writeSlot i f).watches = s.watches := rfl

@[simp] theorem State.writeSlot_manager (s : State) (i : SlotId) (f : Slot → Slot) : (s.writeSlot i f).manager = s.manager := rfl

@[simp] theorem State.writeSlot_timeBase (s : State) (i : SlotId) (f : Slot → Slot) : (s.writeSlot i f).timeBase = s.timeBase := rfl

@[simp] theorem State.writeSlot_prescaler (s : State) (i : SlotId) (f : Slot → Slot) : (s.writeSlot i f).prescaler = s.prescaler := rfl

@[simp] theorem State.writeSlot_divisor (s : State) (i : SlotId) (f : Slot → Slot) : (s.writeSlot i f).divisor = s.divisor := rfl

@[simp] theorem State.writeSlot_policy (s : State) (i : SlotId) (f : Slot → Slot) : (s.writeSlot i f).policy = s.policy := rfl

@[simp] theorem State.writeSlot_orphanPolicy (s : State) (i : SlotId) (f : Slot → Slot) : (s.writeSlot i f).orphanPolicy = s.orphanPolicy := rfl

@[simp] theorem State.writeSlot_pending (s : State) (i : SlotId) (f : Slot → Slot) : (s.writeSlot i f).pending = s.pending := rfl

@[simp] theorem State.writeSlot_port (s : State) (i : SlotId) (f : Slot → Slot) (x : Port) :
    (s.writeSlot i f).port x = s.port x := rfl

@[simp] theorem State.writeSlot_chain (s : State) (i : SlotId) (f : Slot → Slot) (x : ChainId) :
    (s.writeSlot i f).chain x = s.chain x := rfl

@[simp] theorem State.writeSlot_watch (s : State) (i : SlotId) (f : Slot → Slot) (x : WatchId) :
    (s.writeSlot i f).watch x = s.watch x := rfl

@[simp] theorem State.writeSlot_flagWord (s : State) (i : SlotId) (f : Slot → Slot) (x : FlagId) :
    (s.writeSlot i f).flagWord x = s.flagWord x := rfl

@[simp] theorem State.writeSlot_classQueue (s : State) (i : SlotId) (f : Slot → Slot) (x : ClassId) :
    (s.writeSlot i f).classQueue x = s.classQueue x := rfl

@[simp] theorem State.writeSlot_policyOf (s : State) (i : SlotId) (f : Slot → Slot) (x : ClassId) :
    (s.writeSlot i f).policyOf x = s.policyOf x := rfl

@[simp] theorem State.writeSlot_isPaused (s : State) (i : SlotId) (f : Slot → Slot) (x : ClassId) :
    (s.writeSlot i f).isPaused x = s.isPaused x := rfl

/-! ### writeJob -/

@[simp] theorem State.writeJob_inReset (s : State) (i : SlotId) (f : Job → Job) : (s.writeJob i f).inReset = s.inReset := rfl

@[simp] theorem State.writeJob_ports (s : State) (i : SlotId) (f : Job → Job) : (s.writeJob i f).ports = s.ports := rfl

@[simp] theorem State.writeJob_freeList (s : State) (i : SlotId) (f : Job → Job) : (s.writeJob i f).freeList = s.freeList := rfl

@[simp] theorem State.writeJob_classQueues (s : State) (i : SlotId) (f : Job → Job) : (s.writeJob i f).classQueues = s.classQueues := rfl

@[simp] theorem State.writeJob_seqCounter (s : State) (i : SlotId) (f : Job → Job) : (s.writeJob i f).seqCounter = s.seqCounter := rfl

@[simp] theorem State.writeJob_chains (s : State) (i : SlotId) (f : Job → Job) : (s.writeJob i f).chains = s.chains := rfl

@[simp] theorem State.writeJob_classPtr (s : State) (i : SlotId) (f : Job → Job) : (s.writeJob i f).classPtr = s.classPtr := rfl

@[simp] theorem State.writeJob_portPtr (s : State) (i : SlotId) (f : Job → Job) : (s.writeJob i f).portPtr = s.portPtr := rfl

@[simp] theorem State.writeJob_hold (s : State) (i : SlotId) (f : Job → Job) : (s.writeJob i f).hold = s.hold := rfl

@[simp] theorem State.writeJob_paused (s : State) (i : SlotId) (f : Job → Job) : (s.writeJob i f).paused = s.paused := rfl

@[simp] theorem State.writeJob_words (s : State) (i : SlotId) (f : Job → Job) : (s.writeJob i f).words = s.words := rfl

@[simp] theorem State.writeJob_watches (s : State) (i : SlotId) (f : Job → Job) : (s.writeJob i f).watches = s.watches := rfl

@[simp] theorem State.writeJob_manager (s : State) (i : SlotId) (f : Job → Job) : (s.writeJob i f).manager = s.manager := rfl

@[simp] theorem State.writeJob_timeBase (s : State) (i : SlotId) (f : Job → Job) : (s.writeJob i f).timeBase = s.timeBase := rfl

@[simp] theorem State.writeJob_prescaler (s : State) (i : SlotId) (f : Job → Job) : (s.writeJob i f).prescaler = s.prescaler := rfl

@[simp] theorem State.writeJob_divisor (s : State) (i : SlotId) (f : Job → Job) : (s.writeJob i f).divisor = s.divisor := rfl

@[simp] theorem State.writeJob_policy (s : State) (i : SlotId) (f : Job → Job) : (s.writeJob i f).policy = s.policy := rfl

@[simp] theorem State.writeJob_orphanPolicy (s : State) (i : SlotId) (f : Job → Job) : (s.writeJob i f).orphanPolicy = s.orphanPolicy := rfl

@[simp] theorem State.writeJob_pending (s : State) (i : SlotId) (f : Job → Job) : (s.writeJob i f).pending = s.pending := rfl

@[simp] theorem State.writeJob_port (s : State) (i : SlotId) (f : Job → Job) (x : Port) :
    (s.writeJob i f).port x = s.port x := rfl

@[simp] theorem State.writeJob_chain (s : State) (i : SlotId) (f : Job → Job) (x : ChainId) :
    (s.writeJob i f).chain x = s.chain x := rfl

@[simp] theorem State.writeJob_watch (s : State) (i : SlotId) (f : Job → Job) (x : WatchId) :
    (s.writeJob i f).watch x = s.watch x := rfl

@[simp] theorem State.writeJob_flagWord (s : State) (i : SlotId) (f : Job → Job) (x : FlagId) :
    (s.writeJob i f).flagWord x = s.flagWord x := rfl

@[simp] theorem State.writeJob_classQueue (s : State) (i : SlotId) (f : Job → Job) (x : ClassId) :
    (s.writeJob i f).classQueue x = s.classQueue x := rfl

@[simp] theorem State.writeJob_policyOf (s : State) (i : SlotId) (f : Job → Job) (x : ClassId) :
    (s.writeJob i f).policyOf x = s.policyOf x := rfl

@[simp] theorem State.writeJob_isPaused (s : State) (i : SlotId) (f : Job → Job) (x : ClassId) :
    (s.writeJob i f).isPaused x = s.isPaused x := rfl

/-! ### enqueue -/

@[simp] theorem State.enqueue_inReset (s : State) (p : Port) (ev : Event) : (s.enqueue p ev).inReset = s.inReset := rfl

@[simp] theorem State.enqueue_slots (s : State) (p : Port) (ev : Event) : (s.enqueue p ev).slots = s.slots := rfl

@[simp] theorem State.enqueue_freeList (s : State) (p : Port) (ev : Event) : (s.enqueue p ev).freeList = s.freeList := rfl

@[simp] theorem State.enqueue_classQueues (s : State) (p : Port) (ev : Event) : (s.enqueue p ev).classQueues = s.classQueues := rfl

@[simp] theorem State.enqueue_seqCounter (s : State) (p : Port) (ev : Event) : (s.enqueue p ev).seqCounter = s.seqCounter := rfl

@[simp] theorem State.enqueue_chains (s : State) (p : Port) (ev : Event) : (s.enqueue p ev).chains = s.chains := rfl

@[simp] theorem State.enqueue_classPtr (s : State) (p : Port) (ev : Event) : (s.enqueue p ev).classPtr = s.classPtr := rfl

@[simp] theorem State.enqueue_portPtr (s : State) (p : Port) (ev : Event) : (s.enqueue p ev).portPtr = s.portPtr := rfl

@[simp] theorem State.enqueue_hold (s : State) (p : Port) (ev : Event) : (s.enqueue p ev).hold = s.hold := rfl

@[simp] theorem State.enqueue_paused (s : State) (p : Port) (ev : Event) : (s.enqueue p ev).paused = s.paused := rfl

@[simp] theorem State.enqueue_words (s : State) (p : Port) (ev : Event) : (s.enqueue p ev).words = s.words := rfl

@[simp] theorem State.enqueue_watches (s : State) (p : Port) (ev : Event) : (s.enqueue p ev).watches = s.watches := rfl

@[simp] theorem State.enqueue_manager (s : State) (p : Port) (ev : Event) : (s.enqueue p ev).manager = s.manager := rfl

@[simp] theorem State.enqueue_timeBase (s : State) (p : Port) (ev : Event) : (s.enqueue p ev).timeBase = s.timeBase := rfl

@[simp] theorem State.enqueue_prescaler (s : State) (p : Port) (ev : Event) : (s.enqueue p ev).prescaler = s.prescaler := rfl

@[simp] theorem State.enqueue_divisor (s : State) (p : Port) (ev : Event) : (s.enqueue p ev).divisor = s.divisor := rfl

@[simp] theorem State.enqueue_policy (s : State) (p : Port) (ev : Event) : (s.enqueue p ev).policy = s.policy := rfl

@[simp] theorem State.enqueue_orphanPolicy (s : State) (p : Port) (ev : Event) : (s.enqueue p ev).orphanPolicy = s.orphanPolicy := rfl

@[simp] theorem State.enqueue_pending (s : State) (p : Port) (ev : Event) : (s.enqueue p ev).pending = s.pending := rfl

@[simp] theorem State.enqueue_slot (s : State) (p : Port) (ev : Event) (x : SlotId) :
    (s.enqueue p ev).slot x = s.slot x := rfl

@[simp] theorem State.enqueue_job (s : State) (p : Port) (ev : Event) (x : SlotId) :
    (s.enqueue p ev).job x = s.job x := rfl

@[simp] theorem State.enqueue_handle (s : State) (p : Port) (ev : Event) (x : SlotId) :
    (s.enqueue p ev).handle x = s.handle x := rfl

@[simp] theorem State.enqueue_chain (s : State) (p : Port) (ev : Event) (x : ChainId) :
    (s.enqueue p ev).chain x = s.chain x := rfl

@[simp] theorem State.enqueue_watch (s : State) (p : Port) (ev : Event) (x : WatchId) :
    (s.enqueue p ev).watch x = s.watch x := rfl

@[simp] theorem State.enqueue_flagWord (s : State) (p : Port) (ev : Event) (x : FlagId) :
    (s.enqueue p ev).flagWord x = s.flagWord x := rfl

@[simp] theorem State.enqueue_classQueue (s : State) (p : Port) (ev : Event) (x : ClassId) :
    (s.enqueue p ev).classQueue x = s.classQueue x := rfl

@[simp] theorem State.enqueue_policyOf (s : State) (p : Port) (ev : Event) (x : ClassId) :
    (s.enqueue p ev).policyOf x = s.policyOf x := rfl

@[simp] theorem State.enqueue_isPaused (s : State) (p : Port) (ev : Event) (x : ClassId) :
    (s.enqueue p ev).isPaused x = s.isPaused x := rfl

/-! ### answer -/

@[simp] theorem State.answer_inReset (s : State) (p : Port) (r : Reply) : (s.answer p r).inReset = s.inReset := rfl

@[simp] theorem State.answer_slots (s : State) (p : Port) (r : Reply) : (s.answer p r).slots = s.slots := rfl

@[simp] theorem State.answer_freeList (s : State) (p : Port) (r : Reply) : (s.answer p r).freeList = s.freeList := rfl

@[simp] theorem State.answer_classQueues (s : State) (p : Port) (r : Reply) : (s.answer p r).classQueues = s.classQueues := rfl

@[simp] theorem State.answer_seqCounter (s : State) (p : Port) (r : Reply) : (s.answer p r).seqCounter = s.seqCounter := rfl

@[simp] theorem State.answer_chains (s : State) (p : Port) (r : Reply) : (s.answer p r).chains = s.chains := rfl

@[simp] theorem State.answer_classPtr (s : State) (p : Port) (r : Reply) : (s.answer p r).classPtr = s.classPtr := rfl

@[simp] theorem State.answer_portPtr (s : State) (p : Port) (r : Reply) : (s.answer p r).portPtr = s.portPtr := rfl

@[simp] theorem State.answer_hold (s : State) (p : Port) (r : Reply) : (s.answer p r).hold = s.hold := rfl

@[simp] theorem State.answer_paused (s : State) (p : Port) (r : Reply) : (s.answer p r).paused = s.paused := rfl

@[simp] theorem State.answer_words (s : State) (p : Port) (r : Reply) : (s.answer p r).words = s.words := rfl

@[simp] theorem State.answer_watches (s : State) (p : Port) (r : Reply) : (s.answer p r).watches = s.watches := rfl

@[simp] theorem State.answer_manager (s : State) (p : Port) (r : Reply) : (s.answer p r).manager = s.manager := rfl

@[simp] theorem State.answer_timeBase (s : State) (p : Port) (r : Reply) : (s.answer p r).timeBase = s.timeBase := rfl

@[simp] theorem State.answer_prescaler (s : State) (p : Port) (r : Reply) : (s.answer p r).prescaler = s.prescaler := rfl

@[simp] theorem State.answer_divisor (s : State) (p : Port) (r : Reply) : (s.answer p r).divisor = s.divisor := rfl

@[simp] theorem State.answer_policy (s : State) (p : Port) (r : Reply) : (s.answer p r).policy = s.policy := rfl

@[simp] theorem State.answer_orphanPolicy (s : State) (p : Port) (r : Reply) : (s.answer p r).orphanPolicy = s.orphanPolicy := rfl

@[simp] theorem State.answer_pending (s : State) (p : Port) (r : Reply) : (s.answer p r).pending = s.pending := rfl

@[simp] theorem State.answer_slot (s : State) (p : Port) (r : Reply) (x : SlotId) :
    (s.answer p r).slot x = s.slot x := rfl

@[simp] theorem State.answer_job (s : State) (p : Port) (r : Reply) (x : SlotId) :
    (s.answer p r).job x = s.job x := rfl

@[simp] theorem State.answer_handle (s : State) (p : Port) (r : Reply) (x : SlotId) :
    (s.answer p r).handle x = s.handle x := rfl

@[simp] theorem State.answer_chain (s : State) (p : Port) (r : Reply) (x : ChainId) :
    (s.answer p r).chain x = s.chain x := rfl

@[simp] theorem State.answer_watch (s : State) (p : Port) (r : Reply) (x : WatchId) :
    (s.answer p r).watch x = s.watch x := rfl

@[simp] theorem State.answer_flagWord (s : State) (p : Port) (r : Reply) (x : FlagId) :
    (s.answer p r).flagWord x = s.flagWord x := rfl

@[simp] theorem State.answer_classQueue (s : State) (p : Port) (r : Reply) (x : ClassId) :
    (s.answer p r).classQueue x = s.classQueue x := rfl

@[simp] theorem State.answer_policyOf (s : State) (p : Port) (r : Reply) (x : ClassId) :
    (s.answer p r).policyOf x = s.policyOf x := rfl

@[simp] theorem State.answer_isPaused (s : State) (p : Port) (r : Reply) (x : ClassId) :
    (s.answer p r).isPaused x = s.isPaused x := rfl

/-! ### Reading the updated record -/

theorem State.modPort_port (s : State) (p x : Port) (f : PortRec → PortRec) :
    (s.modPort p f).port x = if x = p then f (s.port p) else s.port x := by
  by_cases h : x = p
  · subst h; simp [State.modPort, State.port]
  · have h' : p.val ≠ x.val := fun e => h (Fin.ext e.symm)
    simp [State.modPort, State.port, h, h']

@[simp] theorem State.modPort_port_self (s : State) (p : Port) (f : PortRec → PortRec) :
    (s.modPort p f).port p = f (s.port p) := by simp [State.modPort_port]

theorem State.modPort_port_of_ne (s : State) (p x : Port) (f : PortRec → PortRec) (h : x ≠ p) :
    (s.modPort p f).port x = s.port x := by simp [State.modPort_port, h]

/-- Two changes of one record are one change. -/
theorem State.modPort_modPort (s : State) (p : Port) (f g : PortRec → PortRec) :
    (s.modPort p f).modPort p g = s.modPort p fun r => g (f r) := by
  simp [State.modPort, State.port]

theorem State.modSlot_slot (s : State) (i x : SlotId) (f : Slot → Slot) :
    (s.modSlot i f).slot x = if x = i then f (s.slot i) else s.slot x := by
  by_cases h : x = i
  · subst h; simp [State.modSlot, State.slot]
  · have h' : i.val ≠ x.val := fun e => h (Fin.ext e.symm)
    simp [State.modSlot, State.slot, h, h']

@[simp] theorem State.modSlot_slot_self (s : State) (i : SlotId) (f : Slot → Slot) :
    (s.modSlot i f).slot i = f (s.slot i) := by simp [State.modSlot_slot]

theorem State.modSlot_slot_of_ne (s : State) (i x : SlotId) (f : Slot → Slot) (h : x ≠ i) :
    (s.modSlot i f).slot x = s.slot x := by simp [State.modSlot_slot, h]

/-- Two changes of one record are one change. -/
theorem State.modSlot_modSlot (s : State) (i : SlotId) (f g : Slot → Slot) :
    (s.modSlot i f).modSlot i g = s.modSlot i fun r => g (f r) := by
  simp [State.modSlot, State.slot]

theorem State.modChain_chain (s : State) (e x : ChainId) (f : ChainEntry → ChainEntry) :
    (s.modChain e f).chain x = if x = e then f (s.chain e) else s.chain x := by
  by_cases h : x = e
  · subst h; simp [State.modChain, State.chain]
  · have h' : e.val ≠ x.val := fun e => h (Fin.ext e.symm)
    simp [State.modChain, State.chain, h, h']

@[simp] theorem State.modChain_chain_self (s : State) (e : ChainId) (f : ChainEntry → ChainEntry) :
    (s.modChain e f).chain e = f (s.chain e) := by simp [State.modChain_chain]

theorem State.modChain_chain_of_ne (s : State) (e x : ChainId) (f : ChainEntry → ChainEntry) (h : x ≠ e) :
    (s.modChain e f).chain x = s.chain x := by simp [State.modChain_chain, h]

/-- Two changes of one record are one change. -/
theorem State.modChain_modChain (s : State) (e : ChainId) (f g : ChainEntry → ChainEntry) :
    (s.modChain e f).modChain e g = s.modChain e fun r => g (f r) := by
  simp [State.modChain, State.chain]

theorem State.modWatch_watch (s : State) (k x : WatchId) (f : Watch → Watch) :
    (s.modWatch k f).watch x = if x = k then f (s.watch k) else s.watch x := by
  by_cases h : x = k
  · subst h; simp [State.modWatch, State.watch]
  · have h' : k.val ≠ x.val := fun e => h (Fin.ext e.symm)
    simp [State.modWatch, State.watch, h, h']

@[simp] theorem State.modWatch_watch_self (s : State) (k : WatchId) (f : Watch → Watch) :
    (s.modWatch k f).watch k = f (s.watch k) := by simp [State.modWatch_watch]

theorem State.modWatch_watch_of_ne (s : State) (k x : WatchId) (f : Watch → Watch) (h : x ≠ k) :
    (s.modWatch k f).watch x = s.watch x := by simp [State.modWatch_watch, h]

/-- Two changes of one record are one change. -/
theorem State.modWatch_modWatch (s : State) (k : WatchId) (f g : Watch → Watch) :
    (s.modWatch k f).modWatch k g = s.modWatch k fun r => g (f r) := by
  simp [State.modWatch, State.watch]

theorem State.modQueue_classQueue (s : State) (c x : ClassId) (f : List SlotId → List SlotId) :
    (s.modQueue c f).classQueue x = if x = c then f (s.classQueue c) else s.classQueue x := by
  by_cases h : x = c
  · subst h; simp [State.modQueue, State.classQueue]
  · have h' : c.val ≠ x.val := fun e => h (Fin.ext e.symm)
    simp [State.modQueue, State.classQueue, h, h']

@[simp] theorem State.modQueue_classQueue_self (s : State) (c : ClassId) (f : List SlotId → List SlotId) :
    (s.modQueue c f).classQueue c = f (s.classQueue c) := by simp [State.modQueue_classQueue]

theorem State.modQueue_classQueue_of_ne (s : State) (c x : ClassId) (f : List SlotId → List SlotId) (h : x ≠ c) :
    (s.modQueue c f).classQueue x = s.classQueue x := by simp [State.modQueue_classQueue, h]

/-- Two changes of one record are one change. -/
theorem State.modQueue_modQueue (s : State) (c : ClassId) (f g : List SlotId → List SlotId) :
    (s.modQueue c f).modQueue c g = s.modQueue c fun r => g (f r) := by
  simp [State.modQueue, State.classQueue]

/-! ### Derived updates -/

/-- The slot after a block's write, with its recomputed check code (R13). -/
theorem State.writeSlot_slot (s : State) (i x : SlotId) (f : Slot → Slot) :
    (s.writeSlot i f).slot x = if x = i then { f (s.slot i) with checkOk := true } else s.slot x :=
  s.modSlot_slot i x _

@[simp] theorem State.writeSlot_slot_self (s : State) (i : SlotId) (f : Slot → Slot) :
    (s.writeSlot i f).slot i = { f (s.slot i) with checkOk := true } := by simp [State.writeSlot_slot]

theorem State.writeJob_slot (s : State) (i x : SlotId) (f : Job → Job) :
    (s.writeJob i f).slot x =
      if x = i then { s.slot i with job := f (s.slot i).job, checkOk := true } else s.slot x := by
  rw [State.writeJob, State.writeSlot_slot]

@[simp] theorem State.writeJob_job_self (s : State) (i : SlotId) (f : Job → Job) :
    (s.writeJob i f).job i = f (s.job i) := by simp [State.job, State.writeJob_slot]

theorem State.modSlot_job (s : State) (i x : SlotId) (f : Slot → Slot) :
    (s.modSlot i f).job x = if x = i then (f (s.slot i)).job else s.job x := by
  by_cases h : x = i <;> simp [State.job, State.modSlot_slot, h]

/-- The port's record after a record has joined its queue. -/
theorem State.enqueue_port (s : State) (p x : Port) (ev : Event) :
    (s.enqueue p ev).port x =
      if x = p then { s.port p with queue := (s.port p).queue ++ [ev] } else s.port x :=
  s.modPort_port p x _

/-- The port's record after a response has been made (R192). -/
theorem State.answer_port (s : State) (p x : Port) (r : Reply) :
    (s.answer p r).port x =
      if x = p then
        { s.port p with
          link := { (s.port p).link with
            cached := some ⟨(s.port p).link.lastSeq.getD 0, r.status, r.data⟩
            buffer := some ⟨(s.port p).link.lastSeq.getD 0, r.status, r.data⟩
            inFlight := false } }
      else s.port x :=
  s.modPort_port p x _

/-- Reading an element of a vector mapped by `mapV`. -/
@[simp] theorem getElem_mapV {α β : Type} {n : Nat} (f : α → β) (v : Vector α n) (k : Nat) (h : k < n) :
    (mapV f v)[k] = f v[k] := by
  simp [mapV, Vector.getElem_mk]

end Sys2Proof.Machine
end

