-- ==== Sys2Proof/Laws/Kept.lean ====
section
/-! SUPPORT. What the shared operations keep. `Kept P` says that a property of states survives the three kinds of
change that the blocks make within a session: any change outside the port records and the device's control
state, a change of a port record that its session, link, missed count and queue do not show, and a record
joining a queue with room. Each shared operation then keeps `P`, said once for all such properties; the close of an
event keeps it when the end of a drain does. -/

namespace Sys2Proof.Machine

/-- The change does not show in the port's session, link, pins, missed count or queue. -/
def Quiet (f : PortRec → PortRec) : Prop :=
  ∀ r, (f r).prst = r.prst ∧ (f r).state = r.state ∧ (f r).departure = r.departure ∧ (f r).link = r.link
    ∧ (f r).pdo = r.pdo ∧ (f r).missed = r.missed ∧ (f r).stalled = r.stalled ∧ (f r).queue = r.queue
    ∧ (f r).abandoned = r.abandoned ∧ (f r).reading = r.reading

/-- The property survives every change that the shared operations make. -/
structure Kept (P : State → Prop) : Prop where
  rest : ∀ {s t : State}, P s → t.ports = s.ports → t.manager = s.manager → t.hold = s.hold →
    t.inReset = s.inReset → t.prescaler = s.prescaler → t.divisor = s.divisor → P t
  quiet : ∀ {s : State} {p : Port} {f : PortRec → PortRec}, Quiet f → P s → P (s.modPort p f)
  enqueue : ∀ {s : State} {p : Port} {e : Event}, s.queueRoom p = true → P s → P (s.enqueue p e)

/-- The property survives what the end of a drain does to its port's missed count, STALLED flag and session (R153
steps 2, 4 and 5). -/
def KeepsIdle (P : State → Prop) : Prop :=
  ∀ {s : State} {p : Port}, P s → (s.port p).state = .leaving → (s.port p).departure = none →
    P (s.modPort p fun r => { r with missed := 0, stalled := false })
      ∧ P (s.modPort p fun r => { r.endSession with cursor := 0, state := .idle })

/-- The property survives a change of a missed count and STALLED flag (R64). -/
def KeepsMissed (P : State → Prop) : Prop :=
  ∀ {s : State} {p : Port} (g : PortRec → Nat × Bool), P s →
    P (s.modPort p fun r => { r with missed := (g r).1, stalled := (g r).2 })

/-- Two properties that are kept are kept together. -/
theorem Kept.and {P Q : State → Prop} (K : Kept P) (L : Kept Q) : Kept fun s => P s ∧ Q s where
  rest := fun h a b c d e f => ⟨K.rest h.1 a b c d e f, L.rest h.2 a b c d e f⟩
  quiet := fun hf h => ⟨K.quiet hf h.1, L.quiet hf h.2⟩
  enqueue := fun hr h => ⟨K.enqueue hr h.1, L.enqueue hr h.2⟩

theorem foldl_keeps {α β : Type} {P : α → Prop} {f : α → β → α} (h : ∀ a b, P a → P (f a b)) :
    ∀ (l : List β) {a : α}, P a → P (l.foldl f a)
  | [], _, ha => ha
  | b :: l, _, ha => foldl_keeps h l (h _ b ha)

section
variable {P : State → Prop} (K : Kept P)
include K

theorem Kept.modSlot {s : State} (i : SlotId) (f : Slot → Slot) (h : P s) : P (s.modSlot i f) :=
  K.rest h rfl rfl rfl rfl rfl rfl

theorem Kept.writeSlot {s : State} (i : SlotId) (f : Slot → Slot) (h : P s) : P (s.writeSlot i f) :=
  K.modSlot i _ h

theorem Kept.writeJob {s : State} (i : SlotId) (f : Job → Job) (h : P s) : P (s.writeJob i f) :=
  K.writeSlot i _ h

theorem Kept.modChain {s : State} (e : ChainId) (f : ChainEntry → ChainEntry) (h : P s) : P (s.modChain e f) :=
  K.rest h rfl rfl rfl rfl rfl rfl

theorem Kept.modWatch {s : State} (k : WatchId) (f : Watch → Watch) (h : P s) : P (s.modWatch k f) :=
  K.rest h rfl rfl rfl rfl rfl rfl

theorem Kept.modQueue {s : State} (c : ClassId) (f : List SlotId → List SlotId) (h : P s) : P (s.modQueue c f) :=
  K.rest h rfl rfl rfl rfl rfl rfl

/-! ### Notices -/

theorem Kept.notify {s : State} {p : Port} {e : Event} {owe : State → State} (h : P s)
    (ho : P s → P (owe s)) : P (s.notify p e owe) := by
  unfold State.notify
  split
  · exact h
  · split
    next hr => exact K.enqueue (by simp [State.room] at hr; exact hr.1) h
    next => exact ho h

theorem Kept.setConsumerMark {s : State} (i : SlotId) (p : Port) (n : Option ConsumerNotice) (h : P s) :
    P (s.setConsumerMark i p n) := K.writeSlot _ _ h

theorem Kept.setProducerMark {s : State} (i : SlotId) (m : Option ProducerMark) (h : P s) :
    P (s.setProducerMark i m) := K.writeSlot _ _ h

theorem Kept.notifyProducer {s : State} (i : SlotId) (p : Port) (n : ProducerNotice) (h : P s) :
    P (s.notifyProducer i p n) := K.notify h (K.setProducerMark _ _)

theorem Kept.notifyConsumer {s : State} (i : SlotId) (p : Port) (n : ConsumerNotice) (h : P s) :
    P (s.notifyConsumer i p n) := K.notify h (K.setConsumerMark _ _ _)

theorem Kept.tellProducer {s : State} (i : SlotId) (n : ProducerNotice) (h : P s) : P (s.tellProducer i n) := by
  unfold State.tellProducer
  split
  · exact K.notifyProducer _ _ _ h
  · exact h

theorem Kept.tellConsumer {s : State} (i : SlotId) (p : Option Port) (n : ConsumerNotice) (h : P s) :
    P (s.tellConsumer i p n) := by
  unfold State.tellConsumer
  split
  · exact K.notifyConsumer _ _ _ h
  · exact h

theorem Kept.notifyPort {s : State} (p : Port) (n : PortNotice) (h : P s) : P (s.notifyPort p n) :=
  K.notify h fun h => K.quiet (fun _ => ⟨rfl, rfl, rfl, rfl, rfl, rfl, rfl, rfl, rfl, rfl⟩) h

theorem Kept.notifyJoined {s : State} (n : PortNotice) (h : P s) : P (s.notifyJoined n) :=
  foldl_keeps (fun t p ht => by split; exacts [K.notifyPort _ _ ht, ht]) _ h

/-! ### Collections -/

theorem Kept.leaveQueue {s : State} (i : SlotId) (h : P s) : P (s.leaveQueue i) := K.modQueue _ _ h

theorem Kept.enterQueue {s : State} (i : SlotId) (h : P s) : P (s.enterQueue i) := K.modQueue _ _ h

theorem Kept.requeue {s : State} (i : SlotId) (h : P s) : P (s.requeue i) :=
  K.enterQueue _ (K.writeSlot _ _ h)

theorem Kept.leaveChain {s : State} (i : SlotId) (h : P s) : P (s.leaveChain i) := by
  unfold State.leaveChain
  split
  · exact K.modChain _ _ h
  · exact h

theorem Kept.leaveConsumer {s : State} (i : SlotId) (h : P s) : P (s.leaveConsumer i) := by
  unfold State.leaveConsumer
  apply K.writeJob
  split
  · exact K.quiet (fun _ => ⟨rfl, rfl, rfl, rfl, rfl, rfl, rfl, rfl, rfl, rfl⟩) h
  · exact h

theorem Kept.leaveCollection {s : State} (i : SlotId) (h : P s) : P (s.leaveCollection i) := by
  unfold State.leaveCollection
  split
  · exact K.leaveQueue _ h
  · exact K.leaveConsumer _ h
  · exact K.leaveConsumer _ h
  · exact h

theorem Kept.endCount {s : State} (i : SlotId) (h : P s) : P (s.endCount i) := by
  unfold State.endCount
  split
  · exact K.quiet (fun _ => ⟨rfl, rfl, rfl, rfl, rfl, rfl, rfl, rfl, rfl, rfl⟩) h
  · exact h

theorem Kept.release {s : State} (i : SlotId) (h : P s) : P (s.release i) := by
  unfold State.release
  apply K.modSlot
  split
  · exact h
  · exact K.endCount _ h

theorem Kept.dropProducerMark {s : State} (i : SlotId) (p : Port) (h : P s) : P (s.dropProducerMark i p) := by
  unfold State.dropProducerMark
  split
  · exact K.setProducerMark _ _ h
  · exact h

/-! ### Flags -/

theorem Kept.watchHit {s : State} (k : WatchId) (v : Word) (h : P s) : P (s.watchHit k v) := by
  unfold State.watchHit
  split
  · exact h
  · split
    · exact K.modWatch _ _ h
    · exact K.modWatch _ _ (K.notify h id)

theorem Kept.evalWatch {s : State} (k : WatchId) (v : Word) (h : P s) : P (s.evalWatch k v) := by
  unfold State.evalWatch
  split
  · exact K.watchHit _ _ h
  · exact K.modWatch _ _ h

theorem Kept.evalWatches {s : State} (f : FlagId) (v : Word) (h : P s) : P (s.evalWatches f v) :=
  foldl_keeps (fun t k ht => by split; exacts [K.evalWatch _ _ ht, ht]) _ h

theorem Kept.applyCombine {s : State} (f : FlagId) (fn : CombineFn) (operand mask : Word) (h : P s) :
    P (s.applyCombine f fn operand mask) :=
  K.evalWatches _ _ (K.rest h rfl rfl rfl rfl rfl rfl)

theorem Kept.settleWatch {s : State} (k : WatchId) (h : P s) : P (s.settleWatch k) := K.modWatch _ _ h

theorem Kept.freeWatches {s : State} (p : Port) (h : P s) : P (s.freeWatches p) :=
  K.quiet (fun _ => ⟨rfl, rfl, rfl, rfl, rfl, rfl, rfl, rfl, rfl, rfl⟩) (foldl_keeps (fun _ _ ht => K.modWatch _ _ ht) _ h)

/-! ### The end of a job -/

theorem Kept.leaveLive {s : State} (i : SlotId) (h : P s) : P (s.leaveLive i) :=
  K.writeSlot _ _ (K.leaveChain _ (K.leaveCollection _ h))

theorem Kept.applyAction {s : State} (i : SlotId) (st : FinishStatus) (h : P s) : P (s.applyAction i st) := by
  unfold State.applyAction
  split
  · split
    · exact K.applyCombine _ _ _ _ h
    · exact h
  · exact h

theorem Kept.record {s : State} (i : SlotId) (st : FinishStatus) (h : P s) : P (s.record i st) := by
  unfold State.record
  split
  · exact K.tellProducer _ _ (K.writeSlot _ _ h)
  · exact K.release _ h

theorem Kept.finishTail {s : State} (i : SlotId) (st : FinishStatus) (h : P s) : P (s.finishTail i st) :=
  K.record _ _ (K.applyAction _ _ h)

theorem Kept.enterQuarantine {s : State} (i : SlotId) (h : P s) : P (s.enterQuarantine i) :=
  K.modSlot _ _ (K.endCount _ (K.leaveChain _ (K.leaveCollection _ h)))

theorem Kept.passLost {s : State} (i : SlotId) (o : Option Port) (h : P s) : P (s.passLost i o) :=
  K.tellConsumer _ _ _ (K.tellProducer _ _ h)

theorem Kept.quarantineInBreak {s : State} (i : SlotId) (h : P s) : P (s.quarantineInBreak i) :=
  K.passLost _ _ (K.enterQuarantine _ h)

theorem Kept.endHold {s : State} (i : SlotId) (h : P s) : P (s.endHold i) := by
  unfold State.endHold
  split
  · exact K.tellConsumer _ _ _ (K.leaveConsumer _ h)
  · exact K.tellConsumer _ _ _ (K.leaveConsumer _ h)
  · exact h

theorem Kept.breakJob {a : State × Nat} (j : SlotId) (h : P a.1) : P (breakJob a j).1 := by
  unfold Machine.breakJob
  split
  · exact K.quarantineInBreak _ h
  · exact K.finishTail _ _ (K.leaveLive _ (K.endHold _ h))

theorem Kept.passChainBroken {s : State} (e : ChainId) (x : Handle) (n : Nat) (h : P s) :
    P (s.passChainBroken e x n) := by
  unfold State.passChainBroken
  split
  · exact K.notify h (K.modChain _ _)
  · exact h

theorem Kept.breakChain {s : State} (e : ChainId) (x : Handle) (h : P s) : P (s.breakChain e x) :=
  K.passChainBroken _ _ _ (K.modChain _ _
    (foldl_keeps (P := fun a : State × Nat => P a.1) (fun _ _ ha => K.breakJob _ ha) _ h))

theorem Kept.breakIfStrict {s : State} (o : Option ChainId) (x : Handle) (h : P s) : P (s.breakIfStrict o x) := by
  unfold State.breakIfStrict
  split
  · split
    · exact K.breakChain _ _ h
    · exact h
  · exact h

theorem Kept.quarantine {s : State} (i : SlotId) (h : P s) : P (s.quarantine i) :=
  K.passLost _ _ (K.breakIfStrict _ _ (K.enterQuarantine _ h))

theorem Kept.readRecord {s : State} (i : SlotId) (h : P s) : P (s.readRecord i) := by
  unfold State.readRecord
  split
  · exact K.quarantine _ h
  · exact h

theorem Kept.finishJob {s : State} (i : SlotId) (st : FinishStatus) (h : P s) : P (s.finishJob i st) := by
  unfold State.finishJob
  apply K.finishTail
  split
  · exact K.breakIfStrict _ _ (K.leaveLive _ h)
  · exact K.leaveLive _ h

theorem Kept.cancelOffered {s : State} (i : SlotId) (h : P s) : P (s.cancelOffered i) :=
  K.finishJob _ _ (K.tellConsumer _ _ _ (K.leaveConsumer _ h))

/-! ### The end of a session, and the close of an event -/

theorem Kept.discard {s : State} (i : SlotId) (p : Port) (h : P s) : P (s.discard i p) := by
  unfold State.discard
  apply K.release
  apply K.dropProducerMark
  apply K.leaveChain
  split
  · exact K.tellConsumer _ _ _ (K.leaveCollection _ h)
  · exact K.tellConsumer _ _ _ (K.leaveCollection _ h)
  · exact K.leaveCollection _ h

theorem Kept.orphanJob {s : State} (i : SlotId) (h : P s) : P (s.orphanJob i) := K.writeJob _ _ (K.endCount _ h)

theorem Kept.orphanSlot (p : Port) (o : OrphanPolicy) {a : State × DepCounts} (i : SlotId) (h : P a.1) :
    P (orphanSlot p o a i).1 := by
  unfold Machine.orphanSlot
  dsimp only
  split
  · exact h
  · split
    · exact K.quarantine _ h
    · split
      · exact K.release _ (K.dropProducerMark _ _ h)
      · split
        · exact K.discard _ _ h
        · exact K.orphanJob _ h

theorem Kept.orphanChain (p : Port) (o : OrphanPolicy) {a : State × DepCounts} (e : ChainId) (h : P a.1) :
    P (orphanChain p o a e).1 := by
  unfold Machine.orphanChain
  dsimp only
  split
  · dsimp only; split <;> exact K.modChain _ _ h
  · exact h

theorem Kept.clearQuarantined (p : Port) {s : State} (i : SlotId) (h : P s) : P (clearQuarantined p s i) := by
  unfold Machine.clearQuarantined
  split
  · exact K.modSlot _ _ h
  · exact h

theorem Kept.orphanHandling {s : State} (p : Port) (o : OrphanPolicy) (n : DepCounts) (h : P s) :
    P (s.orphanHandling p o n).1 := by
  unfold State.orphanHandling
  generalize allSlots = l, allChains = m
  exact foldl_keeps (fun _ i ht => K.clearQuarantined p i ht) _
    (foldl_keeps (P := fun a : State × DepCounts => P a.1) (fun _ e ha => K.orphanChain p o e ha) _
      (foldl_keeps (P := fun a : State × DepCounts => P a.1) (fun _ i ha => K.orphanSlot p o i ha) _ h))

theorem Kept.closeChain {s : State} (e : ChainId) (h : P s) : P (closeChain s e) := by
  unfold Machine.closeChain
  dsimp only
  split
  · exact K.modChain _ _ h
  · exact h

theorem Kept.closeSlot {s : State} (i : SlotId) (h : P s) : P (closeSlot s i) := by
  unfold Machine.closeSlot
  split
  · exact K.rest h rfl rfl rfl rfl rfl rfl
  · exact h

theorem Kept.closeSlots {s : State} (h : P s) : P s.closeSlots := foldl_keeps (fun _ i ht => K.closeSlot i ht) _ h

end

/-- A port's state and departure are kept. -/
theorem kept_session (p : Port) (st : PortState) (d : Option Departure) :
    Kept fun s => (s.port p).state = st ∧ (s.port p).departure = d where
  rest := fun h hp _ _ _ _ _ => by simpa [State.port, hp] using h
  quiet := fun {s q f} hf hs => by
    rw [State.modPort_port]; split
    next e => subst e; exact ⟨(hf _).2.1.trans hs.1, (hf _).2.2.1.trans hs.2⟩
    next => exact hs
  enqueue := fun {s q e} _ hs => by
    rw [State.enqueue_port]; split
    next e => subst e; exact hs
    next => exact hs

section
variable {P : State → Prop} (K : Kept P) (I : KeepsIdle P)
include K I

/-- What follows orphan handling at the end of a drain keeps the property (R153 steps 2 to 6). -/
theorem Kept.endDrainTail {t : State} (p : Port)
    (h : P t ∧ (t.port p).state = .leaving ∧ (t.port p).departure = none) :
    P ((((t.modPort p fun r => { r with missed := 0, stalled := false }).freeWatches p).modPort p fun r =>
      { r.endSession with cursor := 0, state := .idle }).notifyPort p .left) := by
  have L := K.and (kept_session p .leaving none)
  have h1 := L.freeWatches p (s := t.modPort p fun r => { r with missed := 0, stalled := false })
    ⟨(I h.1 h.2.1 h.2.2).1, by rw [State.modPort_port_self]; exact h.2.1,
      by rw [State.modPort_port_self]; exact h.2.2⟩
  exact K.notifyPort _ _ (I h1.1 h1.2.1 h1.2.2).2

/-- The end of a drain keeps the property (R153). -/
theorem Kept.endDrain {s : State} (p : Port) (h : P s)
    (hst : (s.port p).state = .leaving ∧ (s.port p).departure = none) : P (s.endDrain p) := by
  have h0 := (K.and (kept_session p .leaving none)).orphanHandling p s.orphanPolicy DepCounts.zero ⟨h, hst⟩
  unfold State.endDrain
  exact K.endDrainTail I p h0

/-- The close of one port's drain keeps the property (R153). -/
theorem Kept.closeDrain {s : State} (p : Port) (h : P s) : P (closeDrain s p) := by
  unfold Machine.closeDrain
  split
  next hd =>
    simp only [State.drainOver, State.departing, Bool.and_eq_true, beq_iff_eq, Bool.not_eq_true',
      Option.isSome_eq_false_iff, Option.isNone_iff_eq_none] at hd
    exact K.endDrain I p h ⟨hd.1.1.1.1, hd.1.1.1.2⟩
  next => exact h

/-- The close of an event keeps the property (R99). -/
theorem Kept.close {s : State} (h : P s) : P s.close := by
  unfold State.close
  exact foldl_keeps (fun _ p ht => K.closeDrain I p ht) _
    (K.closeSlots (foldl_keeps (fun _ e ht => K.closeChain e ht) _ h))

theorem Kept.closeIf {s : State} (b : Bool) (h : P s) : P (s.closeIf b) := by
  unfold State.closeIf
  split
  · exact K.close I h
  · exact h

end

end Sys2Proof.Machine
end

