-- ==== Sys2Proof/Laws/KeptCommands.lean ====
section
/-! SUPPORT. What the commands' own parts keep (Laws/Kept.lean, for the operations that belong to one family of
commands). -/

namespace Sys2Proof.Machine

theorem nat_repeat_keeps {α : Type} {P : α → Prop} {f : α → α} (h : ∀ a, P a → P (f a)) :
    ∀ (n : Nat) {a : α}, P a → P (Nat.repeat f n a)
  | 0, _, ha => ha
  | n + 1, _, ha => h _ (nat_repeat_keeps h n ha)

section
variable {P : State → Prop} (K : Kept P)
include K

/-! ### Sessions -/

theorem Kept.undecline (p : Port) {s : State} (i : SlotId) (h : P s) : P (undecline p s i) := by
  unfold Machine.undecline
  repeat' split
  · exact K.quarantine _ h
  · exact K.writeJob _ _ h
  · exact h
  · exact h

theorem Kept.withdrawOffer (p : Port) (told : Bool) {a : State × Nat} (i : SlotId) (h : P a.1) :
    P (withdrawOffer p told a i).1 := by
  unfold Machine.withdrawOffer
  dsimp only
  split
  · split
    · exact K.quarantine _ h
    · split
      · exact K.notifyConsumer _ _ _ (K.requeue _ (K.leaveConsumer _ h))
      · exact K.requeue _ (K.leaveConsumer _ h)
  · exact h

theorem Kept.withdrawOffers {s : State} (p : Port) (told : Bool) (h : P s) : P (s.withdrawOffers p told).1 := by
  unfold State.withdrawOffers
  exact foldl_keeps (P := fun a : State × Nat => P a.1) (fun _ i ha => K.withdrawOffer p told i ha) _ h

/-! ### Leases -/

theorem Kept.dropCancelRequest {s : State} (i : SlotId) (p : Port) (h : P s) : P (s.dropCancelRequest i p) := by
  unfold State.dropCancelRequest
  split
  · exact K.setConsumerMark _ _ _ h
  · exact h

theorem Kept.returnToQueue {s : State} (i : SlotId) (p : Port) (b : Bool) (h : P s) :
    P (s.returnToQueue i p b) := K.requeue _ (K.writeJob _ _ (K.leaveConsumer _ h))

theorem Kept.completeJob {s : State} (p : Port) (c : CompleteParams) (h : P s) : P (s.completeJob p c) :=
  K.finishJob _ _ (K.dropCancelRequest _ _ (K.writeJob _ _ (K.leaveConsumer _ h)))

theorem Kept.takeLease {s : State} (i : SlotId) (p : Port) (h : P s) : P (s.takeLease i p) :=
  K.writeJob _ _ (K.leaveConsumer _ h)

theorem Kept.dispose {s : State} (i : SlotId) (d : Disposition) (h : P s) : P (s.dispose i d) := by
  unfold State.dispose
  split
  · exact K.finishJob _ _ h
  · exact K.finishJob _ _ h
  · exact K.requeue _ h

theorem Kept.expireLease {s : State} (i : SlotId) (p : Port) (h : P s) : P (s.expireLease i p) :=
  K.dispose _ _ (K.notifyConsumer _ _ _ (K.takeLease _ _ h))

theorem Kept.reclaimJob (p : Port) {a : State × DepCounts} (i : SlotId) (h : P a.1) : P (reclaimJob p a i).1 := by
  unfold Machine.reclaimJob
  dsimp only
  split
  · split
    · exact K.quarantine _ h
    · exact K.dispose _ _ (K.takeLease _ _ h)
  · exact h

/-! ### Jobs -/

theorem Kept.joinChain {s : State} (p : Port) (a : SubmitParams) (i : SlotId) (t : ChainTarget) (h : P s) :
    P (s.joinChain p a i t) := by
  unfold State.joinChain
  split
  · exact h
  · exact K.modChain _ _ h
  · exact K.modChain _ _ h

theorem Kept.submitJob {s : State} (p : Port) (a : SubmitParams) (i : SlotId) (t : ChainTarget) (h : P s) :
    P (s.submitJob p a i t) := by
  unfold State.submitJob
  have h1 := K.quiet (p := p) (f := fun r => { r with quotaCount := r.quotaCount + 1 })
    (fun _ => ⟨rfl, rfl, rfl, rfl, rfl, rfl, rfl, rfl, rfl, rfl⟩)
    (K.modSlot i (fun sl => { Slot.empty sl.gen with state := .queued, job := s.newJob p a t }) h)
  exact K.enterQueue _ (K.joinChain _ _ _ _ (K.rest h1 rfl rfl rfl rfl rfl rfl))

theorem Kept.requestCancel {s : State} (i : SlotId) (h : P s) : P (s.requestCancel i) := by
  unfold State.requestCancel
  split
  · exact h
  · exact K.tellConsumer _ _ _ (K.writeJob _ _ h)

theorem Kept.dropJobDone {s : State} (i : SlotId) (h : P s) : P (s.dropJobDone i) := by
  unfold State.dropJobDone
  split
  · exact K.setProducerMark _ _ h
  · exact h

theorem Kept.promote {s : State} (i : SlotId) (h : P s) : P (s.promote i) := by
  unfold State.promote
  dsimp only
  split
  · exact K.enterQueue _ (K.writeJob _ _ (K.leaveQueue _ (K.modSlot _ _ h)))
  · exact K.modSlot _ _ h

/-! ### Offers -/

theorem Kept.acceptJob {s : State} (i : SlotId) (p : Port) (h : P s) : P (s.acceptJob i p) := by
  have h1 : P ((s.writeSlot i fun sl =>
      { sl with
        state := .active
        job := { sl.job with
          attempts := sl.job.attempts + 1
          deadline := some (s.after sl.job.leaseLimit)
          reclaimedFrom := none } }).modPort p fun r => { r with workingSet := r.workingSet ++ [i] }) :=
    K.quiet (fun _ => ⟨rfl, rfl, rfl, rfl, rfl, rfl, rfl, rfl, rfl, rfl⟩) (K.writeSlot _ _ h)
  unfold State.acceptJob
  dsimp only
  split
  · exact K.modChain _ _ h1
  · exact h1

theorem Kept.declineJob {s : State} (i : SlotId) (p : Port) (h : P s) : P (s.declineJob i p) :=
  K.requeue _ (K.writeJob _ _ (K.leaveConsumer _ h))

theorem Kept.missOffer (M : KeepsMissed P) {s : State} (p : Port) (h : P s) : P (s.missOffer p) := by
  have h1 : P (s.modPort p fun r => { r with missed := r.missed + 1 }) := M (fun r => (r.missed + 1, r.stalled)) h
  unfold State.missOffer
  dsimp only
  split
  · split
    · have h2 := K.notifyPort p .stalled (M (p := p) (fun r => (r.missed, true)) h1)
      split
      · exact K.notifyPort _ _ h2
      · exact h2
    · exact h1
  · exact h

theorem Kept.expireOffer (M : KeepsMissed P) {s : State} (i : SlotId) (p : Port) (h : P s) :
    P (s.expireOffer i p) := K.missOffer M _ (K.notifyConsumer _ _ _ (K.declineJob _ _ h))

/-! ### Flags, notices and search -/

theorem Kept.loadLatch {s : State} (p : Port) (f : FlagId) (v : Word) (h : P s) : P (s.loadLatch p f v) :=
  K.quiet (fun _ => ⟨rfl, rfl, rfl, rfl, rfl, rfl, rfl, rfl, rfl, rfl⟩) h

theorem Kept.flagCombine {s : State} (p : Port) (c : CombineParams) (h : P s) : P (s.flagCombine p c) := by
  unfold State.flagCombine
  apply K.loadLatch
  split
  · exact K.applyCombine _ _ _ _ h
  · exact h

theorem Kept.deliverNotice (p : Port) {s : State} (h : P s) : P (deliverNotice p s) := by
  unfold Machine.deliverNotice
  split
  next hr _ => exact K.quiet (fun _ => ⟨rfl, rfl, rfl, rfl, rfl, rfl, rfl, rfl, rfl, rfl⟩) (K.enqueue hr h)
  next => exact h

theorem Kept.deliverSlot (p : Port) {s : State} (i : SlotId) (h : P s) : P (deliverSlot p s i) := by
  have h1 : P (deliverProducer p s i) := by
    unfold Machine.deliverProducer
    split
    next hr _ => exact K.setProducerMark _ _ (K.enqueue (by simp at hr; exact hr.1) h)
    next => exact h
  unfold Machine.deliverSlot Machine.deliverConsumer
  split
  next hr _ => exact K.setConsumerMark _ _ _ (K.enqueue hr h1)
  next => exact h1

theorem Kept.deliverChain (p : Port) {s : State} (e : ChainId) (h : P s) : P (deliverChain p s e) := by
  unfold Machine.deliverChain
  split
  next hr _ => exact K.modChain _ _ (K.enqueue (by simp at hr; exact hr.1) h)
  next => exact h

theorem Kept.deliverWatch (p : Port) {s : State} (k : WatchId) (h : P s) : P (deliverWatch p s k) := by
  unfold Machine.deliverWatch
  split
  next hr => exact K.settleWatch _ (K.enqueue (by simp at hr; exact hr.1) h)
  next => exact h

theorem Kept.deliver {s : State} (p : Port) (h : P s) : P (s.deliver p) := by
  unfold State.deliver
  exact foldl_keeps (fun _ k ht => K.deliverWatch p k ht) _ (foldl_keeps (fun _ e ht => K.deliverChain p e ht) _
    (foldl_keeps (fun _ i ht => K.deliverSlot p i ht) _ (nat_repeat_keeps (fun _ ht => K.deliverNotice p ht) _ h)))

theorem Kept.cancelAtVisit {s : State} (i : SlotId) (h : P s) : P (s.cancelAtVisit i) := by
  unfold State.cancelAtVisit
  split
  · exact K.cancelOffered _ h
  · exact K.finishJob _ _ h

end

end Sys2Proof.Machine
end

