-- ==== Sys2Proof/Laws/Link.lean ====
section
/-! SUPPORT. What becomes of a command frame (R190 to R193) and of a response read (R194): one lemma for each thing,
and the checks of the checking order passed. -/

namespace Sys2Proof.Machine

/-! ### The received state -/

theorem State.received_port (s : State) (p x : Port) (q : Seq) (ps : List Byte) :
    (s.received p q ps).port x =
      if x = p then
        { s.port p with
          pdo := List.replicate (5 + ps.length) 0xFF
          link := { (s.port p).link with lastSeq := some q, cached := none, inFlight := true }
          missed := 0
          stalled := false }
      else s.port x :=
  s.modPort_port p x _

@[simp] theorem State.received_state (s : State) (p x : Port) (q : Seq) (ps : List Byte) :
    ((s.received p q ps).port x).state = (s.port x).state := by
  rw [State.received_port]; split <;> simp_all

@[simp] theorem State.received_roles (s : State) (p x : Port) (q : Seq) (ps : List Byte) :
    ((s.received p q ps).port x).roles = (s.port x).roles := by
  rw [State.received_port]; split <;> simp_all

@[simp] theorem State.received_departure (s : State) (p x : Port) (q : Seq) (ps : List Byte) :
    ((s.received p q ps).port x).departure = (s.port x).departure := by
  rw [State.received_port]; split <;> simp_all

@[simp] theorem State.received_departing (s : State) (p x : Port) (q : Seq) (ps : List Byte) :
    (s.received p q ps).departing x = s.departing x := by simp [State.departing]

@[simp] theorem State.received_admits (s : State) (p x : Port) (q : Seq) (ps : List Byte) (l : List PortState) :
    (s.received p q ps).admits x l = s.admits x l := by simp [State.admits]

@[simp] theorem State.received_inReset (s : State) (p : Port) (q : Seq) (ps : List Byte) :
    (s.received p q ps).inReset = s.inReset := rfl

@[simp] theorem State.received_manager (s : State) (p : Port) (q : Seq) (ps : List Byte) :
    (s.received p q ps).manager = s.manager := rfl

@[simp] theorem State.received_isManager (s : State) (p x : Port) (q : Seq) (ps : List Byte) :
    (s.received p q ps).isManager x = s.isManager x := rfl

@[simp] theorem State.received_hold (s : State) (p : Port) (q : Seq) (ps : List Byte) :
    (s.received p q ps).hold = s.hold := rfl

@[simp] theorem State.received_slots (s : State) (p : Port) (q : Seq) (ps : List Byte) :
    (s.received p q ps).slots = s.slots := rfl

@[simp] theorem State.received_slot (s : State) (p : Port) (q : Seq) (ps : List Byte) (i : SlotId) :
    (s.received p q ps).slot i = s.slot i := rfl

@[simp] theorem State.received_job (s : State) (p : Port) (q : Seq) (ps : List Byte) (i : SlotId) :
    (s.received p q ps).job i = s.job i := rfl

@[simp] theorem State.received_handle (s : State) (p : Port) (q : Seq) (ps : List Byte) (i : SlotId) :
    (s.received p q ps).handle i = s.handle i := rfl

@[simp] theorem State.received_handleOk (s : State) (p : Port) (q : Seq) (ps : List Byte) (h : Handle) :
    (s.received p q ps).handleOk h = s.handleOk h := rfl

@[simp] theorem State.received_testFails (s : State) (p : Port) (q : Seq) (ps : List Byte) (i : SlotId) :
    (s.received p q ps).testFails i = s.testFails i := rfl

@[simp] theorem State.received_liveFails (s : State) (p : Port) (q : Seq) (ps : List Byte) :
    State.liveFails (s.received p q ps) = State.liveFails s := rfl

@[simp] theorem State.received_chain (s : State) (p : Port) (q : Seq) (ps : List Byte) (e : ChainId) :
    (s.received p q ps).chain e = s.chain e := rfl

@[simp] theorem State.received_watch (s : State) (p : Port) (q : Seq) (ps : List Byte) (k : WatchId) :
    (s.received p q ps).watch k = s.watch k := rfl

@[simp] theorem State.received_flagWord (s : State) (p : Port) (q : Seq) (ps : List Byte) (f : FlagId) :
    (s.received p q ps).flagWord f = s.flagWord f := rfl

@[simp] theorem State.received_freeList (s : State) (p : Port) (q : Seq) (ps : List Byte) :
    (s.received p q ps).freeList = s.freeList := rfl

@[simp] theorem State.received_isPaused (s : State) (p : Port) (q : Seq) (ps : List Byte) (c : ClassId) :
    (s.received p q ps).isPaused c = s.isPaused c := rfl

@[simp] theorem State.received_policyOf (s : State) (p : Port) (q : Seq) (ps : List Byte) (c : ClassId) :
    (s.received p q ps).policyOf c = s.policyOf c := rfl

@[simp] theorem State.received_divisor (s : State) (p : Port) (q : Seq) (ps : List Byte) :
    (s.received p q ps).divisor = s.divisor := rfl

@[simp] theorem State.received_orphanPolicy (s : State) (p : Port) (q : Seq) (ps : List Byte) :
    (s.received p q ps).orphanPolicy = s.orphanPolicy := rfl

@[simp] theorem State.received_timeBase (s : State) (p : Port) (q : Seq) (ps : List Byte) :
    (s.received p q ps).timeBase = s.timeBase := rfl

/-- Marks owed to a port do not change when a command is taken. -/
@[simp] theorem State.received_owed (s : State) (p x : Port) (q : Seq) (ps : List Byte) :
    (s.received p q ps).owed x = s.owed x := by
  have h : ((s.received p q ps).port x).notices = (s.port x).notices := by
    rw [State.received_port]; split <;> simp_all
  simp [State.owed, h]; rfl

/-! ### What becomes of a frame -/

/-- The end of an abandoned transaction is no more than that (R189). -/
theorem State.endTransaction_abandoned {s : State} {p : Port} (effect : State → State)
    (h : (s.port p).abandoned = true) :
    s.endTransaction p effect = s.modPort p fun r => { r with abandoned := false } := if_pos h

/-- The end of any other transaction has its effect, out of reset, after a response read in progress has ended
(R189). -/
theorem State.endTransaction_effect {s : State} {p : Port} (effect : State → State)
    (h1 : (s.port p).abandoned = false) (h0 : s.inReset = false) :
    s.endTransaction p effect = effect (s.endRead p) := by
  simp [State.endTransaction, h1, h0]

/-- All that the end of a transaction can do (R189). -/
theorem State.endTransaction_elim {P : State → Prop} {s : State} {p : Port} {effect : State → State}
    (h1 : P (s.modPort p fun r => { r with abandoned := false })) (h2 : P s) (h3 : P (effect (s.endRead p))) :
    P (s.endTransaction p effect) := by
  unfold State.endTransaction
  repeat' split
  exacts [h1, h2, h3]

/-- Without a response read in progress no bytes of one are shifted out (R194). -/
theorem State.clockRead_none {s : State} {p : Port} (n : Nat) (h : (s.port p).reading = none) :
    s.clockRead p n = s := by simp [State.clockRead, h]

/-- What shifting out bytes of a response read touches (R194). -/
theorem State.clockRead_some {s : State} {p : Port} {rd : Reading} (n : Nat) (h : (s.port p).reading = some rd) :
    s.clockRead p n = s.modPort p fun r =>
      { r with
        pdo := clockedOut (rd.clock n (s.flagsByte p)).frame (rd.clocked + n)
        reading := some (rd.clock n (s.flagsByte p)) } := by simp [State.clockRead, h, Reading.clock]

/-- Without a response read in progress none ends (R194). -/
theorem State.endRead_none {s : State} {p : Port} (h : (s.port p).reading = none) : s.endRead p = s := by
  simp [State.endRead, h]

/-- What the end of a response read touches (R194). -/
theorem State.endRead_some {s : State} {p : Port} {rd : Reading} (h : (s.port p).reading = some rd) :
    s.endRead p = s.modPort p fun r =>
      { r with reading := none, link := { r.link with overrun := r.link.overrun && !rd.reportsOverrun } } := by
  simp [State.endRead, h]

/-- A response read in which no other event is taken (R194). -/
theorem State.readResponse_eq (s : State) (p : Port) (n : Nat) :
    s.readResponse p n = s.modPort p fun r =>
      { r with
        pdo := clockedOut ((s.opening p).clock n (s.flagsByte p)).frame n
        reading := none
        link := { r.link with
          overrun := r.link.overrun && !((s.opening p).clock n (s.flagsByte p)).reportsOverrun } } := by
  have h0 : (s.opening p).clocked = 0 := by
    dsimp only [State.opening]; repeat' split
    all_goals rfl
  have hf : (s.beginRead p).flagsByte p = s.flagsByte p := by
    simp [State.flagsByte, State.beginRead, State.owed]
  have h1 : ((s.beginRead p).port p).reading = some (s.opening p) := by simp [State.beginRead]
  rw [State.readResponse, State.clockRead_some n h1, State.endRead_some (rd := (s.opening p).clock n (s.flagsByte p))]
  · rw [hf, h0]; simp [State.beginRead, State.modPort_modPort]
  · simp [hf]

/-- With PCS_n deasserted there is no transaction to abandon (R189). -/
theorem State.abandon_none {s : State} {p : Port} (h : (s.port p).reading = none) : s.abandon p none = s := by
  simp [State.abandon, h]

/-- The abandonment of a command transaction touches its port's record of the transaction alone (R189). -/
theorem State.abandon_some {s : State} {p : Port} (bytes : List Byte) (h : (s.port p).reading = none) :
    s.abandon p (some bytes) = s.modPort p fun r =>
      { r with abandoned := true, pdo := if s.inReset || r.abandoned then r.pdo else s.driven p bytes } := by
  simp [State.abandon, h]

/-- An abandoned response read ends, and its overrun report is not one (R189). -/
theorem State.abandon_reading {s : State} {p : Port} {rd : Reading} (cut : Option (List Byte))
    (h : (s.port p).reading = some rd) :
    s.abandon p cut = s.modPort p fun r => { r with abandoned := true, reading := none } := by
  simp [State.abandon, h]

theorem State.drivePdo_takeCommand (s : State) (p : Port) (q : Seq) (ps : List Byte) :
    (s.drivePdo p (List.replicate (5 + ps.length) 0xFF)).takeCommand p q = s.received p q ps := by
  simp [State.drivePdo, State.takeCommand, State.received, State.modPort_modPort]

/-- A frame that is taken meets its command's body, and the result is the port's response (R192). -/
theorem hostFrame_takes {s : State} {p : Port} {q : Seq} {ps : List Byte} (body : State → Taken)
    (h : s.takes p q ps) : hostFrame p q ps body s = finishTaken p (body (s.received p q ps)) := by
  obtain ⟨h0, h1, hr, h2, h3, h4, h5⟩ := h
  rw [← s.drivePdo_takeCommand, hostFrame, State.endTransaction_effect _ h1 h0, State.endRead_none hr]
  simp [Config.maxParams, h5, State.goodFrame, State.drivePdo, h2, h3, h4]

/-- A ready result is written as the response (R192). -/
@[simp] theorem finishTaken_some (p : Port) (s : State) (r : Reply) :
    finishTaken p (s, some r) = s.answer p r := rfl

/-- A command without a result stays in flight (R193). -/
@[simp] theorem finishTaken_none (p : Port) (s : State) : finishTaken p (s, none) = s := rfl

@[simp] theorem finishTaken_refuse (p : Port) (st : Status) (s : State) :
    finishTaken p (refuse st s) = s.answer p ⟨st, []⟩ := rfl

@[simp] theorem finishTaken_accepted (p : Port) (data : List Byte) (s : State) :
    finishTaken p (accepted data s) = s.answer p ⟨.ok, data⟩ := rfl

@[simp] theorem closing_some (s : State) (r : Option Reply) : closing (s, r) = (s.close, r) := rfl

@[simp] theorem closing_accepted (s : State) (data : List Byte) :
    closing (accepted data s) = accepted data s.close := rfl

@[simp] theorem closing_refuse (s : State) (st : Status) : closing (refuse st s) = refuse st s.close := rfl

/-! ### Checks passed -/

/-- A manager command of the manager with good parameters has its own effect (R147, R176). -/
theorem managerCommand_of {α : Type} {p : Port} {params : Option α} {s : State} {a : α} (k : α → Taken)
    (h1 : s.admits p inSession = true) (h2 : s.isManager p = true) (h3 : params = some a) :
    managerCommand p params s k = k a := by
  simp [managerCommand, h1, h2, h3]

/-- A handle that names a sound record that is not quarantined reaches the command's own steps (R3, R14). -/
theorem onJob_of {h : Handle} {s : State} (k : Taken) (h1 : s.handleOk h = true)
    (h2 : s.testFails h.slot = false) (h3 : (s.slot h.slot).state ≠ .quarantined) : onJob h s k = k := by
  simp [onJob, h1, h2, h3]

end Sys2Proof.Machine
end

