-- ==== Sys2Proof/Laws/Notices.lean ====
section
/-! SUPPORT. When a mark is owed to a port, and what the Notice Unit does with a notice (R130, R131). -/

namespace Sys2Proof.Machine

/-- A mark is owed to the port exactly when its notice set, a slot, a chain entry or a watch entry holds one
(R135). -/
theorem State.owed_iff (s : State) (p : Port) :
    s.owed p = true ↔ (s.port p).notices.any = true
      ∨ (∃ i : SlotId, (s.slot i).owesProducer p = true ∨ (s.slot i).owesConsumer p = true)
      ∨ (∃ e : ChainId, (s.chain e).owes p = true) ∨ ∃ k : WatchId, (s.watch k).owes p = true := by
  have any_iff : ∀ {α : Type} {n : Nat} (v : Vector α n) (f : α → Bool),
      v.toList.any f = true ↔ ∃ i : Fin n, f v[i] = true := by
    intro α n v f
    simp only [List.any_eq_true, Vector.mem_toList_iff, Vector.mem_iff_getElem, Fin.getElem_fin]
    constructor
    · rintro ⟨x, ⟨k, hk, rfl⟩, hx⟩; exact ⟨⟨k, hk⟩, hx⟩
    · rintro ⟨k, hk⟩; exact ⟨_, ⟨k.val, k.isLt, rfl⟩, hk⟩
  simp only [State.owed, Bool.or_eq_true, any_iff, State.slot, State.chain, State.watch, or_assoc]

/-- Marks owed to a port depend on the marks alone. -/
theorem State.owed_congr {s t : State} {p : Port} (h1 : (t.port p).notices = (s.port p).notices)
    (h2 : ∀ i, (t.slot i).producerMark = (s.slot i).producerMark
      ∧ (t.slot i).consumerMarks = (s.slot i).consumerMarks)
    (h3 : ∀ e, (t.chain e).owed = (s.chain e).owed ∧ (t.chain e).owner = (s.chain e).owner)
    (h4 : ∀ k, (t.watch k).state = (s.watch k).state ∧ (t.watch k).owner = (s.watch k).owner) :
    t.owed p = s.owed p := by
  rw [Bool.eq_iff_iff, State.owed_iff, State.owed_iff]
  simp only [h1, Slot.owesProducer, Slot.owesConsumer, h2, ChainEntry.owes, h3, Watch.owes, h4]

/-- A change of a slot that keeps its marks owes nothing new. -/
theorem State.owed_modSlot (s : State) (i : SlotId) (f : Slot → Slot) (p : Port)
    (h : (f (s.slot i)).producerMark = (s.slot i).producerMark
      ∧ (f (s.slot i)).consumerMarks = (s.slot i).consumerMarks) : (s.modSlot i f).owed p = s.owed p := by
  refine State.owed_congr rfl (fun j => ?_) (fun _ => ⟨rfl, rfl⟩) fun _ => ⟨rfl, rfl⟩
  rw [State.modSlot_slot]
  split
  next e => subst e; exact h
  next => exact ⟨rfl, rfl⟩

theorem State.owed_writeSlot (s : State) (i : SlotId) (f : Slot → Slot) (p : Port)
    (h : (f (s.slot i)).producerMark = (s.slot i).producerMark
      ∧ (f (s.slot i)).consumerMarks = (s.slot i).consumerMarks) : (s.writeSlot i f).owed p = s.owed p :=
  s.owed_modSlot i _ p h

@[simp] theorem State.owed_writeJob (s : State) (i : SlotId) (f : Job → Job) (p : Port) :
    (s.writeJob i f).owed p = s.owed p := s.owed_modSlot i _ p ⟨rfl, rfl⟩

@[simp] theorem State.owed_modQueue (s : State) (c : ClassId) (f : List SlotId → List SlotId) (p : Port) :
    (s.modQueue c f).owed p = s.owed p := rfl

/-- A change of a port record that keeps its notice set owes nothing new. -/
theorem State.owed_modPort (s : State) (q : Port) (f : PortRec → PortRec) (p : Port)
    (h : (f (s.port q)).notices = (s.port q).notices) : (s.modPort q f).owed p = s.owed p := by
  refine State.owed_congr ?_ (fun _ => ⟨rfl, rfl⟩) (fun _ => ⟨rfl, rfl⟩) fun _ => ⟨rfl, rfl⟩
  rw [State.modPort_port]
  split
  next e => subst e; exact h
  next => rfl

@[simp] theorem State.owed_enqueue (s : State) (q : Port) (e : Event) (p : Port) :
    (s.enqueue q e).owed p = s.owed p := s.owed_modPort q _ p rfl

@[simp] theorem State.owed_requeue (s : State) (i : SlotId) (p : Port) : (s.requeue i).owed p = s.owed p := by
  unfold State.requeue State.enterQueue
  rw [State.owed_modQueue]
  exact s.owed_writeSlot i _ p ⟨rfl, rfl⟩

@[simp] theorem State.owed_leaveQueue (s : State) (i : SlotId) (p : Port) : (s.leaveQueue i).owed p = s.owed p := rfl

@[simp] theorem State.owed_leaveConsumer (s : State) (i : SlotId) (p : Port) :
    (s.leaveConsumer i).owed p = s.owed p := by
  unfold State.leaveConsumer
  rw [State.owed_writeJob]
  split
  · exact s.owed_modPort _ _ p rfl
  · rfl

/-- What the Notice Unit does with a notice (R131). -/
theorem State.notify_cases (s : State) (p : Port) (e : Event) (owe : State → State) :
    ((s.port p).state = .down ∧ s.notify p e owe = s)
      ∨ ((s.port p).state ≠ .down ∧ s.room p = true ∧ s.notify p e owe = s.enqueue p e)
      ∨ ((s.port p).state ≠ .down ∧ s.room p = false ∧ s.notify p e owe = owe s) := by
  unfold State.notify
  by_cases h1 : (s.port p).state = .down <;> by_cases h2 : s.room p = true <;> simp_all

/-- A notice for a port that is not DOWN and has room joins its queue (R131). -/
theorem State.notify_room {s : State} {p : Port} (e : Event) (owe : State → State)
    (h1 : (s.port p).state ≠ .down) (h2 : s.room p = true) : s.notify p e owe = s.enqueue p e := by
  simp [State.notify, h1, h2]

/-- Room is a free entry and nothing owed (R131). -/
theorem State.room_iff (s : State) (p : Port) :
    s.room p = true ↔ (s.port p).queue.length < 32 ∧ s.owed p = false := by
  unfold State.room
  rw [Bool.and_eq_true, Bool.not_eq_true']
  exact and_congr_left' decide_eq_true_iff

/-! ### Marks discarded (R141 step 2) -/

@[simp] theorem Slot.withoutMarks_state (sl : Slot) (p : Port) : (sl.withoutMarks p).state = sl.state := rfl

@[simp] theorem Slot.withoutMarks_gen (sl : Slot) (p : Port) : (sl.withoutMarks p).gen = sl.gen := rfl

@[simp] theorem Slot.withoutMarks_job (sl : Slot) (p : Port) : (sl.withoutMarks p).job = sl.job := rfl

@[simp] theorem Slot.withoutMarks_promoDue (sl : Slot) (p : Port) : (sl.withoutMarks p).promoDue = sl.promoDue := rfl

/-- A change that leaves the slot as it is leaves the state as it is. -/
theorem State.modSlot_self (s : State) (i : SlotId) {f : Slot → Slot} (h : f (s.slot i) = s.slot i) :
    s.modSlot i f = s := by
  simp only [State.modSlot, h]
  simp [State.slot]

/-- A change of a slot is what it makes of the slot's present value. -/
theorem State.modSlot_congr (s : State) (i : SlotId) {f g : Slot → Slot} (h : f (s.slot i) = g (s.slot i)) :
    s.modSlot i f = s.modSlot i g := by simp only [State.modSlot, h]

/-- Setting an absent consumer mark to absent changes nothing. -/
theorem Slot.consumerMarks_set_none {sl : Slot} {p : Port} (h : sl.owesConsumer p = false) :
    sl.consumerMarks.set p none = sl.consumerMarks := by
  have : sl.consumerMarks[p] = none := by simpa [Slot.owesConsumer] using h
  ext1 k hk
  rw [Vector.getElem_set]
  split
  next e => subst e; exact this.symm
  next => rfl

/-- What the discard of a slot's marks does: the slot loses the marks owed to the port, and nothing else changes. -/
theorem discardSlotMarks_eq (p : Port) (s : State) (i : SlotId) :
    discardSlotMarks p s i = s.modSlot i fun sl => sl.withoutMarks p := by
  cases hp : (s.slot i).owesProducer p <;> cases hc : (s.slot i).owesConsumer p
  · have hs : discardSlotMarks p s i = s := by simp [discardSlotMarks, State.dropProducerMark, hp, hc]
    rw [hs, State.modSlot_self]
    simp [Slot.withoutMarks, hp, hc, Slot.consumerMarks_set_none hc]
  · have hs : discardSlotMarks p s i = s.setConsumerMark i p none := by
      simp [discardSlotMarks, State.dropProducerMark, hp, hc]
    rw [hs, State.setConsumerMark, State.writeSlot]
    refine s.modSlot_congr i ?_
    simp [Slot.withoutMarks, hp, hc]
  · have hs : discardSlotMarks p s i = s.setProducerMark i none := by
      have : ((s.setProducerMark i none).slot i).owesConsumer p = false := by
        simpa [State.setProducerMark, State.writeSlot, State.modSlot_slot, Slot.owesConsumer] using hc
      simp [discardSlotMarks, State.dropProducerMark, hp, this]
    rw [hs, State.setProducerMark, State.writeSlot]
    refine s.modSlot_congr i ?_
    simp [Slot.withoutMarks, hp, hc, Slot.consumerMarks_set_none hc]
  · have hs : discardSlotMarks p s i = (s.setProducerMark i none).setConsumerMark i p none := by
      have : ((s.setProducerMark i none).slot i).owesConsumer p = true := by
        simpa [State.setProducerMark, State.writeSlot, State.modSlot_slot, Slot.owesConsumer] using hc
      simp [discardSlotMarks, State.dropProducerMark, hp, this]
    rw [hs, State.setConsumerMark, State.setProducerMark, State.writeSlot, State.writeSlot, State.modSlot_modSlot]
    refine s.modSlot_congr i ?_
    simp [Slot.withoutMarks, hp, hc]

end Sys2Proof.Machine
end

