-- ==== Sys2Proof/Laws/Operands.lean ====
section
/-! SUPPORT. Reading a value back from the bytes R197 gives it. -/

namespace Sys2Proof.Machine

@[simp] theorem slotOf_ofNat (i : SlotId) : slotOf (BitVec.ofNat 8 i.val) = i := by
  apply Fin.ext; simp [slotOf]

/-- A number below `n` reads back from its byte. -/
theorem finOf_ofNat {n : Nat} (hn : n ≤ 256) (f : Fin n) : finOf n (BitVec.ofNat 8 f.val) = some f := by
  have h : f.val % 256 = f.val := Nat.mod_eq_of_lt (by omega)
  simp [finOf, h]

/-- A handle reads back from its two bytes (R197). -/
@[simp] theorem parseHandle_handleBytes (h : Handle) : parseHandle (handleBytes h) = some h := by
  have h' := slotOf_ofNat h.slot
  simp only [parseHandle, handleBytes, h']

/-- A block of one number reads back. -/
theorem parseFin_num1 {n : Nat} (hn : n ≤ 256) (f : Fin n) : parseFin n (num1 f.val) = some f := by
  simp [parseFin, num1, finOf_ofNat hn]

/-- A two-byte value reads back, little-endian (R197). -/
theorem half_ofNat {n : Nat} (h : n < 65536) :
    half (BitVec.ofNat 8 n) (BitVec.ofNat 8 (n / 256)) = BitVec.ofNat 16 n := by
  apply BitVec.eq_of_toNat_eq
  simp only [half, BitVec.toNat_append, BitVec.toNat_ofNat]
  rw [← Nat.shiftLeft_add_eq_or_of_lt (by omega), Nat.shiftLeft_eq]
  omega

theorem half_toNat {n : Nat} (h : n < 65536) :
    (half (BitVec.ofNat 8 n) (BitVec.ofNat 8 (n / 256))).toNat = n := by
  rw [half_ofNat h]; simp [Nat.mod_eq_of_lt h]

/-- A word reads back from its four bytes, little-endian (R197). -/
@[simp] theorem word_wordBytes (w : Word) :
    word (w.setWidth 8) ((w >>> 8).setWidth 8) ((w >>> 16).setWidth 8) ((w >>> 24).setWidth 8) = w := by
  apply BitVec.eq_of_getLsbD_eq
  intro i hi
  simp only [word, BitVec.getLsbD_append, BitVec.getLsbD_setWidth, BitVec.getLsbD_ushiftRight]
  split
  · simp [*]
  · split
    · rw [show 8 + (i - 8) = i by omega]; simp; omega
    · split
      · rw [show 16 + (i - 8 - 8) = i by omega]; simp; omega
      · rw [show 24 + (i - 8 - 8 - 8) = i by omega]; simp; omega

/-- A list of words reads back. -/
@[simp] theorem wordsOf_flatMap (ws : List Word) : wordsOf (ws.flatMap wordBytes) = some ws := by
  induction ws with
  | nil => rfl
  | cons w ws ih => simp [wordsOf, wordBytes, ih]

end Sys2Proof.Machine
end

