-- ==== Sys2Proof/Laws/Ops.lean ====
section
/-! SUPPORT. What the shared operations do, once for each: the slot records of a requeue, a release, a loss of the consumer and
a quarantine; that notices and combines leave other records alone; and the free list at the close of an
event. -/

namespace Sys2Proof.Machine

/-! ### Notices and watches change port records and marks alone -/

/-- Whatever the Notice Unit does with a notice, a property of what it leaves follows from its three outcomes. -/
theorem State.notify_elim {P : State → Prop} {s : State} {p : Port} {e : Event} {owe : State → State} (h1 : P s)
    (h2 : P (s.enqueue p e)) (h3 : P (owe s)) : P (s.notify p e owe) := by
  rcases s.notify_cases p e owe with ⟨-, h⟩ | ⟨-, -, h⟩ | ⟨-, -, h⟩ <;> rw [h] <;> assumption

/-- A port notice changes its port's record alone. -/
theorem State.notifyPort_rest (s : State) (p : Port) (n : PortNotice) :
    s.notifyPort p n = { s with ports := (s.notifyPort p n).ports } :=
  State.notify_elim (P := fun t => t = { s with ports := t.ports }) rfl rfl rfl

/-- A notice about a job to its producer changes that port's record and the job's marks alone. -/
theorem State.notifyProducer_rest (s : State) (i : SlotId) (p : Port) (n : ProducerNotice) :
    s.notifyProducer i p n
      = { s with ports := (s.notifyProducer i p n).ports, slots := (s.notifyProducer i p n).slots } :=
  State.notify_elim (P := fun t => t = { s with ports := t.ports, slots := t.slots }) rfl rfl rfl

theorem State.notifyConsumer_rest (s : State) (i : SlotId) (p : Port) (n : ConsumerNotice) :
    s.notifyConsumer i p n
      = { s with ports := (s.notifyConsumer i p n).ports, slots := (s.notifyConsumer i p n).slots } :=
  State.notify_elim (P := fun t => t = { s with ports := t.ports, slots := t.slots }) rfl rfl rfl

/-- A notice about a job leaves every other slot alone. -/
theorem State.notifyProducer_slot_of_ne (s : State) (i j : SlotId) (p : Port) (n : ProducerNotice) (h : j ≠ i) :
    (s.notifyProducer i p n).slot j = s.slot j :=
  State.notify_elim (P := fun t => t.slot j = s.slot j) rfl rfl (s.modSlot_slot_of_ne i j _ h)

theorem State.notifyConsumer_slot_of_ne (s : State) (i j : SlotId) (p : Port) (n : ConsumerNotice) (h : j ≠ i) :
    (s.notifyConsumer i p n).slot j = s.slot j :=
  State.notify_elim (P := fun t => t.slot j = s.slot j) rfl rfl (s.modSlot_slot_of_ne i j _ h)

/-- A notice about a job leaves the job's own fields alone. -/
theorem State.notifyProducer_job (s : State) (i j : SlotId) (p : Port) (n : ProducerNotice) :
    (s.notifyProducer i p n).job j = s.job j ∧ ((s.notifyProducer i p n).slot j).state = (s.slot j).state
      ∧ ((s.notifyProducer i p n).slot j).gen = (s.slot j).gen := by
  refine State.notify_elim (P := fun t => t.job j = s.job j ∧ (t.slot j).state = (s.slot j).state
    ∧ (t.slot j).gen = (s.slot j).gen) ⟨rfl, rfl, rfl⟩ ⟨rfl, rfl, rfl⟩ ?_
  show (State.slot _ j).job = _ ∧ _
  unfold State.setProducerMark State.writeSlot
  rw [State.modSlot_slot]
  split
  next e => subst e; exact ⟨rfl, rfl, rfl⟩
  next => exact ⟨rfl, rfl, rfl⟩

theorem State.notifyConsumer_job (s : State) (i j : SlotId) (p : Port) (n : ConsumerNotice) :
    (s.notifyConsumer i p n).job j = s.job j ∧ ((s.notifyConsumer i p n).slot j).state = (s.slot j).state
      ∧ ((s.notifyConsumer i p n).slot j).gen = (s.slot j).gen := by
  refine State.notify_elim (P := fun t => t.job j = s.job j ∧ (t.slot j).state = (s.slot j).state
    ∧ (t.slot j).gen = (s.slot j).gen) ⟨rfl, rfl, rfl⟩ ⟨rfl, rfl, rfl⟩ ?_
  show (State.slot _ j).job = _ ∧ _
  unfold State.setConsumerMark State.writeSlot
  rw [State.modSlot_slot]
  split
  next e => subst e; exact ⟨rfl, rfl, rfl⟩
  next => exact ⟨rfl, rfl, rfl⟩

/-- One evaluation of a watch changes port records and the watch table alone (R123, R124). -/
theorem State.evalWatch_rest (s : State) (k : WatchId) (v : Word) :
    s.evalWatch k v = { s with ports := (s.evalWatch k v).ports, watches := (s.evalWatch k v).watches } := by
  unfold State.evalWatch
  split
  · unfold State.watchHit
    split
    · rfl
    · split
      · rfl
      · exact State.notify_elim (P := fun t => ∀ g : Watch → Watch, t.modWatch k g =
          { s with ports := (t.modWatch k g).ports, watches := (t.modWatch k g).watches })
          (fun _ => rfl) (fun _ => rfl) (fun _ => rfl) _
  · rfl

/-- An applied combine writes its word, and beyond it changes port records and the watch table alone (R112). -/
theorem State.applyCombine_rest (s : State) (f : FlagId) (fn : CombineFn) (operand mask : Word) :
    s.applyCombine f fn operand mask =
      { s with
        words := s.words.set f (combine fn (s.flagWord f) operand mask)
        ports := (s.applyCombine f fn operand mask).ports
        watches := (s.applyCombine f fn operand mask).watches } := by
  unfold State.applyCombine State.evalWatches
  dsimp only
  generalize combine fn (s.flagWord f) operand mask = v
  have key : ∀ (l : List WatchId) (t : State),
      t = { s with words := s.words.set f v, ports := t.ports, watches := t.watches } →
      l.foldl (fun t k => if (t.watch k).state = .armed ∧ (t.watch k).flag = f then t.evalWatch k v else t) t
        = { s with
            words := s.words.set f v
            ports := (l.foldl (fun t k =>
              if (t.watch k).state = .armed ∧ (t.watch k).flag = f then t.evalWatch k v else t) t).ports
            watches := (l.foldl (fun t k =>
              if (t.watch k).state = .armed ∧ (t.watch k).flag = f then t.evalWatch k v else t) t).watches } := by
    intro l
    induction l with
    | nil => intro t h; exact h
    | cons k l ih =>
      intro t h
      refine ih _ ?_
      dsimp only
      split
      · rw [State.evalWatch_rest, h]
      · exact h
  exact key _ _ rfl

/-! ### Slot records -/

/-- A requeue makes the job QUEUED with queued since now, and leaves every other slot alone (R28). -/
theorem State.requeue_slot (s : State) (i j : SlotId) :
    (s.requeue i).slot j = if j = i then
      { s.slot i with
        state := .queued, checkOk := true, promoDue := 0
        job := { s.job i with consumer := none, deadline := none, queuedSince := some s.timeBase } }
    else s.slot j :=
  s.modSlot_slot i j fun sl =>
    { sl with
      state := .queued, checkOk := true, promoDue := 0
      job := { sl.job with consumer := none, deadline := none, queuedSince := some s.timeBase } }

/-- The loss of the consumer clears the record's consumer and deadline, and leaves every other slot alone. -/
theorem State.leaveConsumer_slot (s : State) (i j : SlotId) :
    (s.leaveConsumer i).slot j = if j = i then
      { s.slot i with checkOk := true, job := { s.job i with consumer := none, deadline := none } }
    else s.slot j := by
  unfold State.leaveConsumer
  dsimp only
  split <;> exact State.modSlot_slot _ i j _

@[simp] theorem State.endCount_slot (s : State) (i j : SlotId) : (s.endCount i).slot j = s.slot j := by
  unfold State.endCount
  split <;> rfl

@[simp] theorem State.leaveChain_slot (s : State) (i j : SlotId) : (s.leaveChain i).slot j = s.slot j := by
  unfold State.leaveChain
  split <;> rfl

@[simp] theorem State.leaveQueue_slot (s : State) (i j : SlotId) : (s.leaveQueue i).slot j = s.slot j := rfl

/-- A release leaves the slot its generation and its marks, and every other slot alone (R11). -/
theorem State.release_slot (s : State) (i j : SlotId) :
    (s.release i).slot j = if j = i then
      { s.slot i with state := .retiring, checkOk := true, promoDue := 0, job := Job.cleared }
    else s.slot j := by
  unfold State.release
  rw [State.modSlot_slot]
  split <;> split <;> simp

/-- Leaving a collection touches the slot's own record alone. -/
theorem State.leaveCollection_slot_of_ne (s : State) (i j : SlotId) (h : j ≠ i) :
    (s.leaveCollection i).slot j = s.slot j := by
  unfold State.leaveCollection
  split
  · rfl
  · rw [State.leaveConsumer_slot, if_neg h]
  · rw [State.leaveConsumer_slot, if_neg h]
  · rfl

theorem State.leaveCollection_slot_fields (s : State) (i : SlotId) :
    ((s.leaveCollection i).slot i).gen = (s.slot i).gen ∧ ((s.leaveCollection i).slot i).state = (s.slot i).state
      ∧ ((s.leaveCollection i).slot i).producerMark = (s.slot i).producerMark
      ∧ ((s.leaveCollection i).slot i).consumerMarks = (s.slot i).consumerMarks
      ∧ (∃ c d, ((s.leaveCollection i).slot i).job = { s.job i with consumer := c, deadline := d }) := by
  unfold State.leaveCollection
  split
  · exact ⟨rfl, rfl, rfl, rfl, _, _, rfl⟩
  · rw [State.leaveConsumer_slot, if_pos rfl]; exact ⟨rfl, rfl, rfl, rfl, _, _, rfl⟩
  · rw [State.leaveConsumer_slot, if_pos rfl]; exact ⟨rfl, rfl, rfl, rfl, _, _, rfl⟩
  · exact ⟨rfl, rfl, rfl, rfl, _, _, rfl⟩

/-! ### The free list at the close of an event -/

/-- One slot at the close (R9, R12). -/
theorem closeSlot_slot (s : State) (i j : SlotId) :
    (closeSlot s i).slot j = if j = i ∧ (s.slot i).state = .retiring ∧ (s.slot i).marked = false then
      Slot.empty ((s.slot i).gen + 1) else s.slot j := by
  unfold closeSlot
  by_cases h : (s.slot i).state = .retiring ∧ (s.slot i).marked = false
  · rw [if_pos h]
    have := s.modSlot_slot i j fun sl => Slot.empty (sl.gen + 1)
    refine Eq.trans this ?_
    simp [h]
  · rw [if_neg h, if_neg (fun hh => h hh.2)]

theorem foldl_closeSlot (l : List SlotId) (hl : l.Nodup) (s : State) :
    (∀ j, (l.foldl closeSlot s).slot j =
      if j ∈ l ∧ (s.slot j).state = .retiring ∧ (s.slot j).marked = false then Slot.empty ((s.slot j).gen + 1)
      else s.slot j)
    ∧ (l.foldl closeSlot s).freeList = s.freeList ++ l.filter fun i =>
        (s.slot i).state == .retiring && !(s.slot i).marked := by
  induction l generalizing s with
  | nil => simp
  | cons i l ih =>
    obtain ⟨hi, hl⟩ := List.nodup_cons.mp hl
    obtain ⟨h1, h2⟩ := ih hl (closeSlot s i)
    have hs : ∀ j ∈ l, (closeSlot s i).slot j = s.slot j := by
      intro j hj
      rw [closeSlot_slot, if_neg]
      rintro ⟨rfl, -⟩
      exact hi hj
    refine ⟨fun j => ?_, ?_⟩
    · rw [List.foldl_cons, h1 j]
      by_cases hj : j ∈ l
      · rw [hs j hj]; simp [hj]
      · rw [if_neg (by tauto), closeSlot_slot]
        by_cases e : j = i
        · subst e; simp
        · simp [e, hj]
    · rw [List.foldl_cons, h2, List.filter_congr (q := fun i =>
        (s.slot i).state == .retiring && !(s.slot i).marked) (fun j hj => by rw [hs j hj])]
      unfold closeSlot
      by_cases h : (s.slot i).state = .retiring ∧ (s.slot i).marked = false
      · rw [if_pos h, List.filter_cons]
        simp [h]
      · rw [if_neg h, List.filter_cons]
        have : ((s.slot i).state == .retiring && !(s.slot i).marked) = false := by
          rw [← Bool.not_eq_true]; simpa using h
        simp [this]

/-- RETIRING slots without marks enter FREE at the close, in ascending order at the tail of the free list (R9, R12). -/
theorem State.closeSlots_slot (s : State) (j : SlotId) :
    s.closeSlots.slot j = if (s.slot j).state = .retiring ∧ (s.slot j).marked = false then
      Slot.empty ((s.slot j).gen + 1) else s.slot j := by
  have h := (foldl_closeSlot allSlots (List.nodup_finRange 256) s).1 j
  have hj : j ∈ allSlots := List.mem_finRange j
  rw [State.closeSlots, h]
  simp only [hj, true_and]

theorem State.closeSlots_freeList (s : State) :
    s.closeSlots.freeList = s.freeList ++ allSlots.filter fun i =>
      (s.slot i).state == .retiring && !(s.slot i).marked :=
  (foldl_closeSlot allSlots (List.nodup_finRange 256) s).2

end Sys2Proof.Machine
end

