-- ==== Sys2Proof/Laws/PerInstr.lean ====
section
/-! SUPPORT. The family FrameRoundTrip, one lemma for each row of the table: the command code of a well-formed
host command's frame names that command again (R190, R197), and its parameters fit a good frame. Rows
that are no command code's have no frame. -/

namespace Sys2Proof.Laws

/-- The frame of a well-formed host command names the command, and is not too long (R190, R197). -/
def FrameRoundTrip.Statement (i : Instr) : Prop :=
  ∀ (p : Port) (f : Frame), i.wellFormed = true → i.frame = some (p, f) →
    commandOf p f = some i ∧ f.params.length ≤ 64

/-- A command whose well-formedness is the length of its parameters. -/
theorem frameRoundTrip_of {i : Instr} {p : Port} {f : Frame} (hf : i.frame = some (p, f))
    (hw : i.wellFormed = paramsFit f.params) (hc : commandOf p f = some i) : FrameRoundTrip.Statement i := by
  intro p' f' h1 h2
  rw [hf, Option.some.injEq, Prod.mk.injEq] at h2
  obtain ⟨rfl, rfl⟩ := h2
  rw [hw] at h1
  exact ⟨hc, of_decide_eq_true h1⟩

/-- A row without a frame. -/
theorem frameRoundTrip_none {i : Instr} (hf : i.frame = none) : FrameRoundTrip.Statement i := by
  intro p f _ h
  rw [hf] at h
  exact absurd h (by simp)

theorem FrameRoundTrip.leaveDrain (p : Port) (q : Seq) (ps : List Byte) :
    FrameRoundTrip.Statement (.leaveDrain p q ps) := by
  intro p' f' h1 h2
  simp only [Instr.frame, Option.some.injEq, Prod.mk.injEq] at h2
  obtain ⟨rfl, rfl⟩ := h2
  simp only [Instr.wellFormed, Bool.and_eq_true, decide_eq_true_eq] at h1
  have h : ¬ps.head? = some (1#8) := h1.2
  exact ⟨by simp [commandOf, h], of_decide_eq_true h1.1⟩

theorem FrameRoundTrip.leaveNow (p : Port) (q : Seq) (ps : List Byte) :
    FrameRoundTrip.Statement (.leaveNow p q ps) := by
  intro p' f' h1 h2
  simp only [Instr.frame, Option.some.injEq, Prod.mk.injEq] at h2
  obtain ⟨rfl, rfl⟩ := h2
  simp only [Instr.wellFormed, Bool.and_eq_true, decide_eq_true_eq] at h1
  exact ⟨by simp [commandOf, h1.2], of_decide_eq_true h1.1⟩

theorem FrameRoundTrip.commandFrameBad (p : Port) (bytes : List Byte) :
    FrameRoundTrip.Statement (.commandFrameBad p bytes) :=
  frameRoundTrip_none rfl

theorem FrameRoundTrip.retransmission (p : Port) (bytes : List Byte) :
    FrameRoundTrip.Statement (.retransmission p bytes) :=
  frameRoundTrip_none rfl

theorem FrameRoundTrip.overrun (p : Port) (bytes : List Byte) :
    FrameRoundTrip.Statement (.overrun p bytes) :=
  frameRoundTrip_none rfl

theorem FrameRoundTrip.badCommand (p : Port) (bytes : List Byte) :
    FrameRoundTrip.Statement (.badCommand p bytes) :=
  frameRoundTrip_none rfl

theorem FrameRoundTrip.responseRead (p : Port) (part : ReadPart) :
    FrameRoundTrip.Statement (.responseRead p part) :=
  frameRoundTrip_none rfl

theorem FrameRoundTrip.join (p : Port) (q : Seq) (ps : List Byte) :
    FrameRoundTrip.Statement (.join p q ps) :=
  frameRoundTrip_of rfl rfl rfl

theorem FrameRoundTrip.setService (p : Port) (q : Seq) (ps : List Byte) :
    FrameRoundTrip.Statement (.setService p q ps) :=
  frameRoundTrip_of rfl rfl rfl

theorem FrameRoundTrip.portStatus (p : Port) (q : Seq) (ps : List Byte) :
    FrameRoundTrip.Statement (.portStatus p q ps) :=
  frameRoundTrip_of rfl rfl rfl

theorem FrameRoundTrip.claimManager (p : Port) (q : Seq) (ps : List Byte) :
    FrameRoundTrip.Statement (.claimManager p q ps) :=
  frameRoundTrip_of rfl rfl rfl

theorem FrameRoundTrip.releaseManager (p : Port) (q : Seq) (ps : List Byte) :
    FrameRoundTrip.Statement (.releaseManager p q ps) :=
  frameRoundTrip_of rfl rfl rfl

theorem FrameRoundTrip.submit (p : Port) (q : Seq) (ps : List Byte) :
    FrameRoundTrip.Statement (.submit p q ps) :=
  frameRoundTrip_of rfl rfl rfl

theorem FrameRoundTrip.cancel (p : Port) (q : Seq) (ps : List Byte) :
    FrameRoundTrip.Statement (.cancel p q ps) :=
  frameRoundTrip_of rfl rfl rfl

theorem FrameRoundTrip.reap (p : Port) (q : Seq) (ps : List Byte) :
    FrameRoundTrip.Statement (.reap p q ps) :=
  frameRoundTrip_of rfl rfl rfl

theorem FrameRoundTrip.chainReset (p : Port) (q : Seq) (ps : List Byte) :
    FrameRoundTrip.Statement (.chainReset p q ps) :=
  frameRoundTrip_of rfl rfl rfl

theorem FrameRoundTrip.accept (p : Port) (q : Seq) (ps : List Byte) :
    FrameRoundTrip.Statement (.accept p q ps) :=
  frameRoundTrip_of rfl rfl rfl

theorem FrameRoundTrip.decline (p : Port) (q : Seq) (ps : List Byte) :
    FrameRoundTrip.Statement (.decline p q ps) :=
  frameRoundTrip_of rfl rfl rfl

theorem FrameRoundTrip.renew (p : Port) (q : Seq) (ps : List Byte) :
    FrameRoundTrip.Statement (.renew p q ps) :=
  frameRoundTrip_of rfl rfl rfl

theorem FrameRoundTrip.returnJob (p : Port) (q : Seq) (ps : List Byte) :
    FrameRoundTrip.Statement (.returnJob p q ps) :=
  frameRoundTrip_of rfl rfl rfl

theorem FrameRoundTrip.complete (p : Port) (q : Seq) (ps : List Byte) :
    FrameRoundTrip.Statement (.complete p q ps) :=
  frameRoundTrip_of rfl rfl rfl

theorem FrameRoundTrip.flagRead (p : Port) (q : Seq) (ps : List Byte) :
    FrameRoundTrip.Statement (.flagRead p q ps) :=
  frameRoundTrip_of rfl rfl rfl

theorem FrameRoundTrip.flagCombine (p : Port) (q : Seq) (ps : List Byte) :
    FrameRoundTrip.Statement (.flagCombine p q ps) :=
  frameRoundTrip_of rfl rfl rfl

theorem FrameRoundTrip.watchSet (p : Port) (q : Seq) (ps : List Byte) :
    FrameRoundTrip.Statement (.watchSet p q ps) :=
  frameRoundTrip_of rfl rfl rfl

theorem FrameRoundTrip.watchClear (p : Port) (q : Seq) (ps : List Byte) :
    FrameRoundTrip.Statement (.watchClear p q ps) :=
  frameRoundTrip_of rfl rfl rfl

theorem FrameRoundTrip.fetch (p : Port) (q : Seq) (ps : List Byte) :
    FrameRoundTrip.Statement (.fetch p q ps) :=
  frameRoundTrip_of rfl rfl rfl

theorem FrameRoundTrip.query (p : Port) (q : Seq) (ps : List Byte) :
    FrameRoundTrip.Statement (.query p q ps) :=
  frameRoundTrip_of rfl rfl rfl

theorem FrameRoundTrip.find (p : Port) (q : Seq) (ps : List Byte) :
    FrameRoundTrip.Statement (.find p q ps) :=
  frameRoundTrip_of rfl rfl rfl

theorem FrameRoundTrip.cancelMatch (p : Port) (q : Seq) (ps : List Byte) :
    FrameRoundTrip.Statement (.cancelMatch p q ps) :=
  frameRoundTrip_of rfl rfl rfl

theorem FrameRoundTrip.readCounts (p : Port) (q : Seq) (ps : List Byte) :
    FrameRoundTrip.Statement (.readCounts p q ps) :=
  frameRoundTrip_of rfl rfl rfl

theorem FrameRoundTrip.hold (p : Port) (q : Seq) (ps : List Byte) :
    FrameRoundTrip.Statement (.hold p q ps) :=
  frameRoundTrip_of rfl rfl rfl

theorem FrameRoundTrip.resume (p : Port) (q : Seq) (ps : List Byte) :
    FrameRoundTrip.Statement (.resume p q ps) :=
  frameRoundTrip_of rfl rfl rfl

theorem FrameRoundTrip.pauseClass (p : Port) (q : Seq) (ps : List Byte) :
    FrameRoundTrip.Statement (.pauseClass p q ps) :=
  frameRoundTrip_of rfl rfl rfl

theorem FrameRoundTrip.unpauseClass (p : Port) (q : Seq) (ps : List Byte) :
    FrameRoundTrip.Statement (.unpauseClass p q ps) :=
  frameRoundTrip_of rfl rfl rfl

theorem FrameRoundTrip.setClassPolicy (p : Port) (q : Seq) (ps : List Byte) :
    FrameRoundTrip.Statement (.setClassPolicy p q ps) :=
  frameRoundTrip_of rfl rfl rfl

theorem FrameRoundTrip.setTickDivisor (p : Port) (q : Seq) (ps : List Byte) :
    FrameRoundTrip.Statement (.setTickDivisor p q ps) :=
  frameRoundTrip_of rfl rfl rfl

theorem FrameRoundTrip.setQuota (p : Port) (q : Seq) (ps : List Byte) :
    FrameRoundTrip.Statement (.setQuota p q ps) :=
  frameRoundTrip_of rfl rfl rfl

theorem FrameRoundTrip.setOrphanPolicy (p : Port) (q : Seq) (ps : List Byte) :
    FrameRoundTrip.Statement (.setOrphanPolicy p q ps) :=
  frameRoundTrip_of rfl rfl rfl

theorem FrameRoundTrip.evict (p : Port) (q : Seq) (ps : List Byte) :
    FrameRoundTrip.Statement (.evict p q ps) :=
  frameRoundTrip_of rfl rfl rfl

theorem FrameRoundTrip.purge (p : Port) (q : Seq) (ps : List Byte) :
    FrameRoundTrip.Statement (.purge p q ps) :=
  frameRoundTrip_of rfl rfl rfl

theorem FrameRoundTrip.clearAll (p : Port) (q : Seq) (ps : List Byte) :
    FrameRoundTrip.Statement (.clearAll p q ps) :=
  frameRoundTrip_of rfl rfl rfl

theorem FrameRoundTrip.resetNAssert :
    FrameRoundTrip.Statement .resetNAssert :=
  frameRoundTrip_none rfl

theorem FrameRoundTrip.resetNRelease :
    FrameRoundTrip.Statement .resetNRelease :=
  frameRoundTrip_none rfl

theorem FrameRoundTrip.prstNAssert (p : PrstAssertion) :
    FrameRoundTrip.Statement (.prstNAssert p) :=
  frameRoundTrip_none rfl

theorem FrameRoundTrip.prstNDeassert (p : Port) :
    FrameRoundTrip.Statement (.prstNDeassert p) :=
  frameRoundTrip_none rfl

theorem FrameRoundTrip.tick :
    FrameRoundTrip.Statement .tick :=
  frameRoundTrip_none rfl

theorem FrameRoundTrip.offerWindowExpiry (i : SlotId) :
    FrameRoundTrip.Statement (.offerWindowExpiry i) :=
  frameRoundTrip_none rfl

theorem FrameRoundTrip.leaseExpiry (i : SlotId) :
    FrameRoundTrip.Statement (.leaseExpiry i) :=
  frameRoundTrip_none rfl

theorem FrameRoundTrip.agePromotion (i : SlotId) :
    FrameRoundTrip.Statement (.agePromotion i) :=
  frameRoundTrip_none rfl

theorem FrameRoundTrip.offer :
    FrameRoundTrip.Statement .offer :=
  frameRoundTrip_none rfl

theorem FrameRoundTrip.scanVisit (p : Port) :
    FrameRoundTrip.Statement (.scanVisit p) :=
  frameRoundTrip_none rfl

theorem FrameRoundTrip.departureOfferWithdrawal (p : Port) :
    FrameRoundTrip.Statement (.departureOfferWithdrawal p) :=
  frameRoundTrip_none rfl

theorem FrameRoundTrip.departureReclaim (p : Port) :
    FrameRoundTrip.Statement (.departureReclaim p) :=
  frameRoundTrip_none rfl

theorem FrameRoundTrip.orphanHandling (p : Port) :
    FrameRoundTrip.Statement (.orphanHandling p) :=
  frameRoundTrip_none rfl

theorem FrameRoundTrip.departureWatchRelease (p : Port) :
    FrameRoundTrip.Statement (.departureWatchRelease p) :=
  frameRoundTrip_none rfl

theorem FrameRoundTrip.departureNoticeClear (p : Port) :
    FrameRoundTrip.Statement (.departureNoticeClear p) :=
  frameRoundTrip_none rfl

theorem FrameRoundTrip.departureScanAbandon (p : Port) :
    FrameRoundTrip.Statement (.departureScanAbandon p) :=
  frameRoundTrip_none rfl

theorem FrameRoundTrip.goodFrameOnDownPort (p : Port) (bytes : List Byte) :
    FrameRoundTrip.Statement (.goodFrameOnDownPort p bytes) :=
  frameRoundTrip_none rfl

end Sys2Proof.Laws
end

