-- ==== Sys2Proof/Tests/Slice0.lean ====
section
/-! SUPPORT. Tests. Part 1: ill-formed terms that well-formedness refuses. Part 2: frames written out from the spec's
encoding. Part 3: one step on a small state, with results worked out from the rules named. Part 4: for each
statement with hypotheses, a state and operands that meet them. -/

namespace Sys2Proof.Tests

-- The kernel evaluates each test on a whole state: one at a time, they stay within the check's memory limit.
set_option Elab.async false

open Machine

/-! ### Part 1: well-formedness -/

theorem test_wf_bad_frame_row_refuses_a_good_frame :
    (Instr.commandFrameBad 0 (frameBytes ⟨1, 0x05, []⟩)).wellFormed = false := by decide +kernel

theorem test_wf_bad_frame_row_refuses_no_bytes : (Instr.commandFrameBad 0 []).wellFormed = false := by decide +kernel

theorem test_wf_bad_frame_row_refuses_a_response_transaction :
    (Instr.commandFrameBad 0 [0x5A, 0]).wellFormed = false := by decide +kernel

theorem test_wf_retransmission_refuses_a_bad_frame :
    (Instr.retransmission 0 [0x3C, 1, 5, 0, 0]).wellFormed = false := by decide +kernel

theorem test_wf_good_frame_on_down_port_refuses_a_bad_frame :
    (Instr.goodFrameOnDownPort 3 [0x3C]).wellFormed = false := by decide +kernel

theorem test_wf_overrun_refuses_no_bytes : (Instr.overrun 0 []).wellFormed = false := by decide +kernel

theorem test_wf_overrun_refuses_a_response_transaction :
    (Instr.overrun 0 [0x5A]).wellFormed = false := by decide +kernel

theorem test_wf_bad_command_refuses_a_known_code :
    (Instr.badCommand 0 (frameBytes ⟨1, 0x6A, []⟩)).wellFormed = false := by decide +kernel

theorem test_wf_bad_command_refuses_a_bad_frame : (Instr.badCommand 0 [0x3C, 1]).wellFormed = false := by
  decide +kernel

theorem test_wf_leave_drain_refuses_mode_now : (Instr.leaveDrain 0 1 [1, 0]).wellFormed = false := by decide +kernel

theorem test_wf_leave_now_refuses_mode_drain : (Instr.leaveNow 0 1 [0, 0]).wellFormed = false := by decide +kernel

theorem test_wf_refuses_65_parameter_bytes :
    (Instr.submit 0 1 (List.replicate 65 0)).wellFormed = false
      ∧ (Instr.submit 0 1 (List.replicate 64 0)).wellFormed = true := by decide +kernel

/-! ### Part 2: frames of the spec's encodings (R190, R191, R197) -/

/-- "123456789" (R191). -/
theorem test_crc_of_the_nine_characters :
    crc8 [0x31, 0x32, 0x33, 0x34, 0x35, 0x36, 0x37, 0x38, 0x39] = 0xF4 := by decide +kernel

/-- CLAIM_MANAGER, sequence 3: kind 0x3C, 0x03, code 0x05, length 0; CRC worked out by R191. -/
theorem test_frame_claim_manager :
    decodeCommand 1 [0x3C, 0x03, 0x05, 0x00, crc8 [0x3C, 0x03, 0x05, 0x00]] = some (.claimManager 1 3 []) := by
  decide +kernel

/-- ACCEPT of handle (7, 2), sequence 15. -/
theorem test_frame_accept :
    decodeCommand 2 [0x3C, 0x0F, 0x20, 0x02, 0x07, 0x02, crc8 [0x3C, 0x0F, 0x20, 0x02, 0x07, 0x02]]
      = some (.accept 2 15 [7, 2]) := by decide +kernel

/-- The two rows of code 0x03. -/
theorem test_frame_leave :
    decodeCommand 0 (frameBytes ⟨1, 0x03, [0, 0]⟩) = some (.leaveDrain 0 1 [0, 0])
      ∧ decodeCommand 0 (frameBytes ⟨1, 0x03, [1, 1]⟩) = some (.leaveNow 0 1 [1, 1]) := by decide +kernel

/-- One code of each family: SUBMIT 0x10, RENEW 0x22, FLAG_COMBINE 0x31, FETCH 0x40, FIND 0x51, CLEAR_ALL 0x6A. -/
theorem test_frame_families :
    decodeCommand 0 (frameBytes ⟨1, 0x10, [2]⟩) = some (.submit 0 1 [2])
      ∧ decodeCommand 0 (frameBytes ⟨1, 0x22, [2]⟩) = some (.renew 0 1 [2])
      ∧ decodeCommand 0 (frameBytes ⟨1, 0x31, [2]⟩) = some (.flagCombine 0 1 [2])
      ∧ decodeCommand 0 (frameBytes ⟨1, 0x40, [2]⟩) = some (.fetch 0 1 [2])
      ∧ decodeCommand 0 (frameBytes ⟨1, 0x51, [2]⟩) = some (.find 0 1 [2])
      ∧ decodeCommand 0 (frameBytes ⟨1, 0x6A, []⟩) = some (.clearAll 0 1 [])
      ∧ decodeCommand 0 (frameBytes ⟨1, 0x07, []⟩) = none := by decide +kernel

/-! ### The bench -/

/-- A JOINED port with both roles, 4 credits, all classes, floor 0. -/
def joinedPort : PortRec :=
  { PortRec.powerOn with state := .joined, roles := ⟨true, true⟩, credits := 4, mask := 0xFF }

/-- P0 and P1 JOINED, P0 the manager, P2 IDLE, P3 DOWN; the time base at 1000. -/
def bench : State :=
  { State.reset with
    inReset := false
    ports := #v[joinedPort, joinedPort, { PortRec.powerOn with state := .idle }, PortRec.powerOn]
    manager := some 0
    timeBase := 1000 }

/-- A job of P0 in class 2 with urgency 3, report yes. -/
def sample : Job :=
  { Job.cleared with
    producer := some 0, cls := 2, baseUrgency := 3, urgency := 3, report := true, leaseLimit := 9
    attemptLimit := 3, queuedSince := some 990 }

/-- The bench with a job in slot 5. -/
def withJob (st : SlotState) (j : Job) : State := bench.modSlot 5 fun sl => { sl with state := st, job := j }

/-- A QUEUED job in slot 5. -/
def queuedJob : State := (withJob .queued sample).modQueue 2 fun _ => [5]

/-- A job OFFERED to P1, due at 1000. -/
def offeredJob : State :=
  withJob .offered { sample with consumer := some 1, deadline := some 1000, queuedSince := none }

/-- A job ACTIVE at P1, due at 1000. -/
def activeJob : State :=
  (withJob .active { sample with
    consumer := some 1, deadline := some 1000, queuedSince := none, attempts := 1 }).modPort 1 fun r =>
      { r with workingSet := [5] }

/-- A DONE job of P0. -/
def doneJob : State := withJob .done { sample with finish := some .success, queuedSince := none, attempts := 1 }

def quarantinedJob : State := withJob .quarantined sample

/-- The state after a command. -/
def after (c : Instr) (s : State) : State :=
  match exec c s with
  | .next t => t
  | .fault _ => s
  | .refused _ => s

/-- The response in a port's buffer. -/
def response (s : State) (p : Port) : Option Resp := (s.port p).link.buffer

/-! ### Part 3: one step -/

/-- R23: the head of the free list, handle (0, 0). -/
theorem test_submit_takes_the_head_of_the_free_list :
    let t := after (.submit 0 1 [2, 3, 1, 0, 0, 0, 0, 0, 0, 0]) bench
    response t 0 = some ⟨1, .ok, [0, 0]⟩ ∧ (t.slot 0).state = .queued ∧ t.classQueue 2 = [0] := by decide +kernel

/-- R180: limits of 0 take the class policy's defaults, lease 2,000 and attempts 3. -/
theorem test_submit_takes_default_limits :
    ((after (.submit 0 1 [2, 3, 1, 0, 0, 0, 0, 0, 0, 0]) bench).job 0).leaseLimit = 2000
      ∧ ((after (.submit 0 1 [2, 3, 1, 0, 0, 0, 0, 0, 0, 0]) bench).job 0).attemptLimit = 3 := by decide +kernel

/-- R41, R98: a QUEUED job with report yes is DONE, and JOB_DONE CANCELLED is queued. -/
theorem test_cancel_of_a_queued_job :
    let t := after (.cancel 0 1 [5, 0]) queuedJob
    (t.slot 5).state = .done ∧ t.classQueue 2 = [] ∧ (t.port 0).queue = [.jobDone ⟨5, 0⟩ .cancelled none] := by
  decide +kernel

/-- R103: the response; R11: the release leaves no job. -/
theorem test_reap_reports_and_releases :
    doneJob.reapData ⟨5, 0⟩ .success = [5, 0, 0, 0, 0, 1, 3, 0]
      ∧ ((doneJob.release 5).slot 5).state = .retiring ∧ (doneJob.release 5).job 5 = Job.cleared := by decide +kernel

/-- R40. -/
theorem test_chain_reset_of_no_chain :
    response (after (.chainReset 0 1 [4]) bench) 0 = some ⟨1, .jobState, []⟩ := by decide +kernel

/-- R55: deadline 1000 + 9, one attempt. -/
theorem test_accept_starts_the_lease :
    let t := after (.accept 1 1 [5, 0]) offeredJob
    (t.slot 5).state = .active ∧ (t.job 5).deadline = some 1009 ∧ (t.port 1).workingSet = [5]
      ∧ response t 1 = some ⟨1, .ok, [5, 0, 1, 3, 9, 0]⟩ := by decide +kernel

/-- R56. -/
theorem test_decline_requeues :
    let t := after (.decline 1 1 [5, 0]) offeredJob
    t.classQueue 2 = [5] ∧ (t.job 5).declined[1] = true ∧ (t.job 5).queuedSince = some 1000 := by decide +kernel

/-- R77: extension 300 ticks. -/
theorem test_renew_moves_the_deadline :
    let t := after (.renew 1 1 [5, 0, 0x2C, 0x01]) activeJob
    (t.job 5).deadline = some 1300 ∧ response t 1 = some ⟨1, .ok, [5, 0, 0x2C, 0x01, 0]⟩ := by decide +kernel

/-- R78: the attempt is refunded. -/
theorem test_return_requeues :
    let t := activeJob.returnToQueue 5 1 true
    (t.slot 5).state = .queued ∧ (t.job 5).attempts = 0 ∧ (t.job 5).declined[1] = true
      ∧ (t.port 1).workingSet = [] := by decide +kernel

/-- R81, R98: JOB_DONE FAILED with user code 7 for the producer. -/
theorem test_complete_reports :
    let t := after (.complete 1 1 [5, 0, 1, 7, 0]) activeJob
    (t.slot 5).state = .done ∧ (t.port 0).queue = [.jobDone ⟨5, 0⟩ .failed (some 7)]
      ∧ response t 1 = some ⟨1, .ok, [5, 0, 1]⟩ := by decide +kernel

/-- R49 to R53: the only job goes to the manager's port P0, first in rotation of two with load 0. -/
theorem test_offer_makes_an_offer :
    let t := after .offer queuedJob
    (t.slot 5).state = .offered ∧ (t.job 5).consumer = some 0 ∧ (t.job 5).deadline = some 1100
      ∧ t.portPtr = 1 ∧ t.classPtr = 3 := by decide +kernel

/-- R57, R64. -/
theorem test_offer_window_expiry :
    let t := after (.offerWindowExpiry 5) offeredJob
    (t.slot 5).state = .queued ∧ (t.port 1).missed = 1 ∧ (t.port 1).queue = [.offerWithdrawn ⟨5, 0⟩ .window] := by
  decide +kernel

/-- R82, R83: one attempt of three, so requeued. -/
theorem test_lease_expiry_requeues :
    let t := activeJob.expireLease 5 1
    activeJob.leaseDue 5 = true ∧ (t.slot 5).state = .queued ∧ (t.job 5).reclaimedFrom = some 1
      ∧ (t.port 1).queue = [.leaseLost ⟨5, 0⟩ .expired] := by decide +kernel

/-- R29. -/
theorem test_age_promotion :
    let s := { queuedJob with policy := Vector.replicate 8 { ClassPolicy.default with ageStep := 10 } }
    let t := after (.agePromotion 5) (s.modSlot 5 fun sl => { sl with promoDue := 1 })
    (t.job 5).urgency = 4 ∧ t.classQueue 2 = [5] ∧ (t.slot 5).promoDue = 0 := by decide +kernel

/-- R118: OR of 0x0F under mask 0x3C is 0x0C; the latch is loaded. -/
theorem test_flag_combine_or :
    let t := after (.flagCombine 0 1 [9, 2, 0, 0, 0x0F, 0, 0, 0, 0x3C, 0, 0, 0, 0, 0, 0, 0]) bench
    t.flagWord 9 = 0x0C ∧ (t.port 0).latch = some (9, 0x0C) ∧ response t 0 = some ⟨1, .ok, [0, 0, 0, 0, 1]⟩ := by
  decide +kernel

/-- R117: LATCH source with an empty latch. -/
theorem test_flag_combine_empty_latch :
    response (after (.flagCombine 0 1 ([9, 2, 1, 0] ++ List.replicate 12 0)) bench) 0
      = some ⟨1, .wrongState, []⟩ := by decide +kernel

/-- R115. -/
theorem test_flag_read_loads_the_latch :
    ((after (.flagRead 0 1 [63]) bench).port 0).latch = some (63, 0) := by decide +kernel

/-- R122, R123: a word of 0 under care mask 0 matches, so a ONCE watch hits at once and is FREE again. -/
theorem test_watch_set_hits_at_once :
    let t := after (.watchSet 0 1 ([9, 0] ++ List.replicate 8 0)) bench
    response t 0 = some ⟨1, .ok, [0, 1]⟩ ∧ (t.watch 0).state = .free ∧ (t.port 0).queue = [.watchHit 0 9 0] := by
  decide +kernel

/-- R126. -/
theorem test_watch_clear_of_a_free_entry :
    response (after (.watchClear 0 1 [15]) bench) 0 = some ⟨1, .notOwner, []⟩ := by decide +kernel

/-- R133, R199: JOB_LOST is kind 6 with a body of two bytes, 4 bytes in all; the second does not fit 7 bytes. -/
theorem test_fetch_takes_what_fits :
    takeRecords 2 7 [.jobLost ⟨5, 0⟩, .jobLost ⟨6, 0⟩] = [.jobLost ⟨5, 0⟩]
      ∧ takeRecords 2 8 [.jobLost ⟨5, 0⟩, .jobLost ⟨6, 0⟩] = [.jobLost ⟨5, 0⟩, .jobLost ⟨6, 0⟩]
      ∧ Event.bytes (.jobLost ⟨5, 0⟩) = [6, 2, 5, 0] := by decide +kernel

/-- R166: a QUARANTINED slot shows its state, class and tag alone. -/
theorem test_query_of_a_quarantined_slot :
    response (after (.query 0 1 [5, 0]) quarantinedJob) 0 = some ⟨1, .ok, [6, 2, 0, 0]⟩ := by decide +kernel

/-- R168: a CONTINUE at 256 visits nothing. -/
theorem test_find_at_the_end :
    let s := bench.modPort 0 fun r => { r with cursor := 256 }
    response (after (.find 0 1 [1, 1, 255, 0, 0, 0, 0]) s) 0 = some ⟨1, .ok, [0, 0, 1, 1]⟩ := by decide +kernel

/-- R169: the visit of slot 5 finds the QUEUED job. -/
theorem test_scan_visit_finds :
    let sc : Scan := ⟨.find ⟨true, false, false, false, false⟩ [], none, 0, 0, 5⟩
    let t := queuedJob.visit 0 sc
    (t.port 0).cursor = 6 ∧ (t.port 0).scan.map Scan.kind
      = some (.find ⟨true, false, false, false, false⟩ [(⟨5, 0⟩, .queued)]) := by decide +kernel

/-- R182: HOLD_ON for both JOINED ports. -/
theorem test_hold_notifies :
    let t := after (.hold 0 1 []) bench
    t.hold = true ∧ (t.port 1).queue = [.portNotice .holdOn] ∧ (t.port 2).queue = [] := by decide +kernel

/-- R176: a port without the claim. -/
theorem test_hold_needs_the_claim :
    response (after (.hold 1 1 []) bench) 1 = some ⟨1, .notManager, []⟩ := by decide +kernel

/-- R183. -/
theorem test_pause_and_unpause :
    (after (.pauseClass 0 1 [7]) bench).isPaused 7 = true
      ∧ (after (.unpauseClass 0 2 [7]) (after (.pauseClass 0 1 [7]) bench)).isPaused 7 = false := by decide +kernel

/-- R181: refused with HOLD off. -/
theorem test_set_class_policy_needs_hold :
    response (after (.setClassPolicy 0 1 [2, 100, 3, 15, 0xD0, 0x07, 0, 0]) bench) 0
      = some ⟨1, .holdRequired, []⟩ := by decide +kernel

/-- R179. -/
theorem test_set_tick_divisor :
    let t := after (.setTickDivisor 0 1 [0, 1]) { bench with prescaler := 17 }
    t.divisor = 256 ∧ t.prescaler = 0 ∧ response t 0 = some ⟨1, .ok, [250, 0, 0, 1]⟩ := by decide +kernel

/-- R184: 256 is in range, 257 is not. -/
theorem test_set_quota :
    ((after (.setQuota 0 1 [3, 0, 1]) bench).port 3).quota = 256
      ∧ response (after (.setQuota 0 1 [3, 1, 1]) bench) 0 = some ⟨1, .badParam, []⟩ := by decide +kernel

/-- R185. -/
theorem test_set_orphan_policy : (after (.setOrphanPolicy 0 1 [1]) bench).orphanPolicy = .keep := by decide +kernel

/-- R17, R12: an unmarked slot enters FREE with the next generation. -/
theorem test_purge_frees_an_unmarked_slot :
    (closeSlot (quarantinedJob.release 5) 5).slot 5 = Slot.empty 1
      ∧ response (after (.purge 0 1 [6]) quarantinedJob) 0 = some ⟨1, .jobState, []⟩ := by decide +kernel

/-- R186: one slot was not FREE, two ports receive CLEARED. -/
theorem test_clear_all :
    let t := after (.clearAll 0 1 []) queuedJob
    t.slot 5 = Slot.empty 1 ∧ response t 0 = some ⟨1, .ok, [1, 0, 0, 2]⟩ ∧ (t.port 1).queue = [.portNotice .cleared] := by
  decide +kernel

/-- R149: both roles, 5 credits, manager P0, HOLD off. -/
theorem test_join :
    response (after (.join 2 1 [3, 5, 0xFF, 0]) bench) 2 = some ⟨1, .ok, [3, 5, 0, 0]⟩ := by decide +kernel

/-- R150. -/
theorem test_set_service :
    response (after (.setService 1 1 [0x0F, 4]) bench) 1 = some ⟨1, .ok, [0xFF, 0, 0x0F, 4]⟩ := by decide +kernel

/-- R59: the drain withdraws P1's offer, and tells it so. -/
theorem test_leave_drain_withdraws :
    let t := (withdrawOffer 1 true (offeredJob, 0) 5).1
    (t.slot 5).state = .queued ∧ (t.port 1).queue = [.offerWithdrawn ⟨5, 0⟩ .leaving] := by decide +kernel

/-- R154. -/
theorem test_leave_now_begins_a_departure :
    let t := after (.leaveNow 0 1 [1, 1]) bench
    (t.port 0).state = .leaving ∧ (t.port 0).departure.map Departure.orphan = some .keep ∧ t.manager = none := by
  decide +kernel

/-- R157. -/
theorem test_evict_begins_a_departure :
    ((after (.evict 0 1 [1]) bench).port 1).departure.map Departure.answer = some (some 0) := by decide +kernel

/-- R159: the claim is taken. -/
theorem test_claim_of_a_held_claim :
    response (after (.claimManager 1 1 []) bench) 1 = some ⟨1, .managerTaken, [0]⟩ := by decide +kernel

/-- R160. -/
theorem test_release_manager :
    let t := after (.releaseManager 0 1 []) { bench with hold := true }
    t.manager = none ∧ t.hold = false
      ∧ (t.port 1).queue = [.portNotice .holdOff, .portNotice (.managerChanged none)] := by decide +kernel

/-- R161: another port's status needs the claim. -/
theorem test_port_status_of_another :
    response (after (.portStatus 1 1 [0]) bench) 1 = some ⟨1, .notManager, []⟩ := by decide +kernel

/-- R174: 18 count bytes of queues, loads and states come before the rest; 48 bytes in all. -/
theorem test_read_counts :
    (response (after (.readCounts 2 1 []) queuedJob) 2).map (fun r => (r.status, (r.data.take 6)))
      = some (.ok, [0, 0, 0, 0, 1, 0]) := by decide +kernel

/-- The steps of a departure of P1 (R154, R155). -/
def departing (st : DepStep) : State :=
  activeJob.modPort 1 fun r =>
    { r with state := .leaving, departure := some ⟨st, .evict, .drop, false, some 0, DepCounts.zero⟩ }

theorem test_departure_watch_release :
    ((after (.departureWatchRelease 1) (departing .watches)).port 1).departure.map Departure.next
      = some .notices := by decide +kernel

/-- R90: the job is requeued, without LEASE_LOST. -/
theorem test_departure_reclaim :
    let t := (reclaimJob 1 (departing .reclaim, DepCounts.zero) 5).1
    (t.slot 5).state = .queued ∧ (t.port 1).queue = [] ∧ (t.port 1).workingSet = [] := by decide +kernel

/-- R141. -/
theorem test_departure_notice_kinds :
    DepCause.notice .evict = some .evicted ∧ DepCause.notice .leaveNow = some .left
      ∧ DepCause.notice .portReset = none := by decide +kernel

/-- R155: P1 is IDLE, and the EVICT of P0 is answered. -/
theorem test_departure_ends :
    let t := after (.departureScanAbandon 1) (departing .search)
    (t.port 1).state = .idle ∧ (t.port 1).departure = none ∧ (response t 0).map Resp.status = some .ok := by
  decide +kernel

/-- R177. -/
theorem test_tick : (after .tick { bench with prescaler := 249 }).timeBase = 1001 := by decide +kernel

/-- R187, R145: released, the ports with PRST_n deasserted are IDLE. -/
theorem test_reset_release :
    ((after .resetNRelease State.reset).port 3).state = .idle ∧ (after .resetNRelease State.reset).inReset = false := by
  decide +kernel

theorem test_reset_assert : (after .resetNAssert queuedJob).slot 5 = Slot.empty 0 := by decide +kernel

/-- R145, R146: P1 is JOINED, so a departure begins; P3 is DOWN, and IDLE when PRST_n is deasserted. -/
theorem test_port_reset :
    ((after (.prstNAssert ⟨1, none⟩) bench).port 1).departure.map Departure.cause = some .portReset
      ∧ ((after (.prstNDeassert 3) (after (.prstNAssert ⟨3, none⟩) bench)).port 3).state = .idle := by decide +kernel

/-- R189, R200: PRST_n is asserted when two bytes of a frame on P1 have been shifted in, so its end has no effect;
the next frame is answered. -/
theorem test_port_reset_abandons_a_frame :
    let s := after (.prstNAssert ⟨1, some [0x3C, 0x01]⟩) bench
    let t := after (.hold 1 1 []) s
    (s.port 1).pdo = [0xFF, 0xFF] ∧ (s.port 1).abandoned = true
      ∧ response t 1 = none ∧ (t.port 1).link.lastSeq = none ∧ (t.port 1).abandoned = false
      ∧ response (after (.hold 1 1 []) t) 1 = some ⟨1, .wrongState, []⟩ := by decide +kernel

/-- R190: the last byte is not the CRC. -/
theorem test_bad_frame :
    response (after (.commandFrameBad 0 [0x3C, 0xA1, 5, 0, 0]) bench) 0 = some ⟨1, .badFrame, []⟩ := by decide +kernel

/-- R196. -/
theorem test_bad_command :
    response (after (.badCommand 0 (frameBytes ⟨4, 0x7F, []⟩)) bench) 0 = some ⟨4, .badCommand, []⟩ := by decide +kernel

/-- R192: a retransmission brings the cached response back after a bad frame. -/
theorem test_retransmission :
    let s := after (.commandFrameBad 0 [0]) (after (.hold 0 1 []) bench)
    response (after (.retransmission 0 (frameBytes ⟨1, 0x60, []⟩)) s) 0 = some ⟨1, .ok, [1]⟩ := by decide +kernel

/-- R193. -/
theorem test_overrun :
    let s := bench.modPort 0 fun r => { r with link := { r.link with inFlight := true } }
    ((after (.overrun 0 [0x3C]) s).port 0).link.overrun = true := by decide +kernel

/-- R192: P3 is DOWN. -/
theorem test_good_frame_on_down_port :
    response (after (.goodFrameOnDownPort 3 (frameBytes ⟨6, 0x05, []⟩)) bench) 3 = some ⟨6, .wrongState, []⟩ := by
  decide +kernel

/-- R194: an empty buffer reads WRONG_STATE with sequence 0, after the byte 0xFF of the kind. -/
theorem test_response_read :
    ((after (.responseRead 0 (.whole 4)) bench).port 0).pdo = [0xFF, 0xA5, 0, 4, 0] := by decide +kernel

/-- A CANCEL_MATCH of P1 with sequence 7 is in flight, at its last slot. -/
def inFlight : State :=
  bench.modPort 1 fun r =>
    { r with
      scan := some ⟨.cancelMatch true 2, none, 0, 0, 255⟩
      link := { r.link with inFlight := true, lastSeq := some 7 } }

/-- R194: a read that began NOT_READY ends so although the result, and an event, come during it; its flags byte, the
fourth, shows the event; the next read is READY with the count 2. -/
theorem test_read_begun_not_ready_ends_not_ready :
    let s := after (.hold 0 1 []) (after (.scanVisit 1)
      (after (.responseRead 1 (.clocks 3)) (after (.responseRead 1 .begins) inFlight)))
    let t := after (.responseRead 1 (.clocks 2)) s
    (s.port 1).pdo = [0xFF, 0x96, 7, 0] ∧ (s.port 1).link.inFlight = false
      ∧ (t.port 1).pdo = [0xFF, 0x96, 7, 0, 1, 0] ∧ ((after (.responseRead 1 .ends) t).port 1).reading = none
      ∧ ((after (.responseRead 1 (.whole 8)) t).port 1).pdo = [0xFF, 0xA5, 7, 0, 1, 2, 0, 2, 0] := by decide +kernel

/-- R194: an overrun is cleared by the end of a READY read that shifted out the flags byte, and by no other. R189: a
read that PRST_n abandons ends. -/
theorem test_read_clears_a_reported_overrun :
    let s := (inFlight.modPort 1 fun r => { r with link := { r.link with overrun := true } }).modPort 0 fun r =>
      { r with link := { r.link with overrun := true } }
    let read (p : Port) (n : Nat) := after (.responseRead p (.clocks n)) (after (.responseRead p .begins) s)
    ((after (.responseRead 0 .ends) (read 0 4)).port 0).link.overrun = false
      ∧ ((after (.responseRead 0 .ends) (read 0 3)).port 0).link.overrun = true
      ∧ ((after (.responseRead 1 .ends) (read 1 9)).port 1).link.overrun = true
      ∧ (let t := after (.prstNAssert ⟨0, none⟩) (read 0 2)
        (t.port 0).reading = none ∧ (t.port 0).abandoned = true) := by decide +kernel

/-! ### Part 4: hypotheses that are met, for each statement that has any -/

/-- The bench with port `p` changed. -/
def onPort (p : Port) (f : PortRec → PortRec) : State := bench.modPort p f

/-- A chain entry of P0 with id 4 in class 2, holding slot 5. -/
def chained (st : ChainState) (strict : Bool) : State :=
  (queuedJob.modSlot 5 fun sl => { sl with job := { sl.job with chain := some (4, 0) } }).modChain 0 fun c =>
    { c with
      state := st, owner := some 0, chainId := 4, cls := 2, strict := strict, list := [5]
      breakRec := some (⟨5, 0⟩, 1) }

/-- A record whose check code has failed. -/
def failing (s : State) : State := s.modSlot 5 fun sl => { sl with checkOk := false }

theorem test_hyps_StepRunsTheFrontCommand :
    { bench with pending := [.tick, .offer] }.pending = .tick :: [.offer] := rfl

theorem test_hyps_TickAdvancesTheTimeBase :
    bench.inReset = false ∧ bench.pending = []
      ∧ ((1001 : Word) - bench.timeBase).toNat = 1 ∧ ((66535 : Word) - bench.timeBase).toNat = 65535
      ∧ (let s := { queuedJob with timeBase := 999, policy := Vector.replicate 8 ⟨100, 2000, 3, 10, 4⟩ }
        (s.slot 5).state = .queued ∧ (s.policyOf (s.job 5).cls).ageStep ≠ 0
          ∧ (s.job 5).urgency < (s.policyOf (s.job 5).cls).ageCeiling ∧ (s.job 5).queuedSince = some 990
          ∧ (s.timeBase + 1 - (990 : Word)).toNat = 1 * (s.policyOf (s.job 5).cls).ageStep) := by decide +kernel

theorem test_hyps_PortsLeaveDownForIdle :
    State.reset.inReset = true ∧ bench.inReset = false
      ∧ ((onPort 3 fun r => { r with prst := true }).port 3).prst = true := by decide +kernel

theorem test_hyps_PortResetByPortState :
    bench.inReset = false ∧ (bench.port 2).prst = false ∧ (bench.port 2).departure = none
      ∧ (bench.port 2).state = .idle ∧ (bench.port 1).departure = none ∧ (bench.port 1).state = .joined
      ∧ (∀ k : WatchId, (bench.watch k).owes 2 = false) ∧ bench.manager = some 0
      ∧ ((departing .orphans).port 1).departure.isSome = true
      ∧ ((onPort 1 fun r => { r with state := .leaving }).port 1).state = .leaving
      ∧ (Instr.hold 1 1 []).transactionPort = some 1 ∧ (Instr.responseRead 1 (.whole 4)).transactionPort = some 1
      ∧ (Instr.responseRead 1 .ends).transactionPort = some 1
      ∧ ((onPort 1 fun r => { r with abandoned := true }).port 1).abandoned = true := by decide +kernel

theorem test_hyps_CommandFramesRoundTrip :
    (Instr.submit 3 15 (List.replicate 64 7)).wellFormed = true
      ∧ (Instr.submit 3 15 (List.replicate 64 7)).frame = some (3, ⟨15, 0x10, List.replicate 64 7⟩) := by
  decide +kernel

theorem test_hyps_HostCommandIsItsFrame :
    (Instr.hold 0 1 (List.replicate 64 7)).frame = some (0, ⟨1, 0x60, List.replicate 64 7⟩)
      ∧ (List.replicate 64 (7 : Byte)).length ≤ 64 := by decide +kernel

theorem test_hyps_BadAndOverrunFrames :
    bench.inReset = false ∧ (bench.port 0).abandoned = false ∧ (bench.port 0).reading = none
      ∧ (bench.port 0).link.inFlight = false
      ∧ (Instr.commandFrameBad 0 [0x3C]).wellFormed = true
      ∧ ((onPort 0 fun r => { r with link := { r.link with inFlight := true } }).port 0).link.inFlight = true
      ∧ (Instr.overrun 0 [0x3C]).wellFormed = true := by decide +kernel

theorem test_hyps_GoodFrameMeetsTheLinkState :
    bench.inReset = false ∧ (bench.port 0).abandoned = false ∧ (bench.port 3).abandoned = false
      ∧ (bench.port 0).reading = none ∧ (bench.port 3).reading = none
      ∧ checkFrame (frameBytes ⟨1, 0x7F, []⟩) = some ⟨1, 0x7F, []⟩ ∧ commandOf 0 ⟨1, 0x7F, []⟩ = none
      ∧ (bench.port 0).state ≠ .down ∧ (bench.port 0).link.lastSeq ≠ some 1 ∧ (bench.port 3).state = .down
      ∧ ((onPort 0 fun r => { r with link := { r.link with lastSeq := some 1 } }).port 0).link.lastSeq
        = some 1 := by decide +kernel

theorem test_hyps_ResponseReadReturnsTheBuffer :
    bench.inReset = false ∧ (bench.port 0).abandoned = false ∧ (bench.port 0).reading = none
      ∧ (let s := after (.responseRead 1 .begins) inFlight
        s.inReset = false ∧ (s.port 1).abandoned = false ∧ (s.port 1).reading = some ⟨false, 7, .ok, [], none, 0⟩)
      ∧ (Instr.responseRead 1 (.whole 0)).transactionPort = some 1 := by decide +kernel

theorem test_hyps_ParameterBlocksReadBack :
    parseJoin [3, 16, 0xFF, 15] = some ⟨⟨true, true⟩, 16, 0xFF, 15⟩ ∧ parseJoin [3, 17, 0xFF, 15] = none
      ∧ parseJoin [3, 1, 0, 0] = some ⟨⟨true, true⟩, 1, 0, 0⟩ ∧ parseJoin [3, 0, 0, 0] = none
      ∧ parseRenew [5, 0, 0xFF, 0xFF] = some (⟨5, 0⟩, 65535)
      ∧ (parseSubmit ([7, 15, 0, 0, 0, 0, 0xFF, 0xFF, 7, 8] ++ List.replicate 32 1)).isSome = true
      ∧ (parseComplete ([5, 0, 1, 0, 4] ++ List.replicate 16 1)).isSome = true
      ∧ parsePolicy [7, 255, 7, 15, 0xFF, 0xFF, 0xFF, 0xFF] = some (7, ⟨255, 65535, 7, 65535, 15⟩)
      ∧ parsePolicy [0, 1, 1, 0, 1, 0, 0, 0] = some (0, ⟨1, 1, 1, 0, 0⟩)
      ∧ parseQuota [3, 0, 1] = some (3, 256) := by decide +kernel

/-- The blocks with named values, sets and small ranges, at the ends of their ranges. -/
theorem test_hyps_ParameterBlocksReadBack_named :
    parseJoin [1, 9, 9, 99] = some ⟨⟨true, false⟩, 0, 0, 0⟩ ∧ parseJoin [0, 1, 0, 0] = none
      ∧ parseLeave [0, 9] = some .drain ∧ parseLeave [1, 1] = some (.now .keep) ∧ parseLeave [1, 2] = none
      ∧ parseService [7, 15] = some (7, 15) ∧ parseService [7, 16] = none
      ∧ parseFetch [1] = some 1 ∧ parseFetch [8] = some 8 ∧ parseFetch [0] = none ∧ parseFetch [9] = none
      ∧ parseFind [0, 31, 7, 1, 0, 2, 0] = some ⟨false, ⟨true, true, true, true, true⟩, some 7, 1, 2⟩
      ∧ parseFind [1, 1, 255, 1, 0, 2, 0] = some ⟨true, ⟨true, false, false, false, false⟩, none, 1, 2⟩
      ∧ parseFind [0, 32, 7, 1, 0, 2, 0] = none ∧ parseFind [0, 1, 8, 1, 0, 2, 0] = none
      ∧ parseCancelMatch [0, 255, 1, 0, 2, 0] = some ⟨false, none, 1, 2⟩ ∧ parseCancelMatch [2, 0, 1, 0, 2, 0] = none
      ∧ parseDivisor [1, 0] = some 1 ∧ parseDivisor [0xFF, 0xFF] = some 65535 ∧ parseDivisor [0, 0] = none
      ∧ parseOrphan [1] = some .keep ∧ parseOrphan [2] = none
      ∧ parseChainId [255] = some 255 ∧ parseChainId [0] = none
      ∧ parseSlot [255] = some 255 ∧ parseFin 64 [63] = some (63 : FlagId) ∧ parseFin 64 [64] = (none : Option FlagId)
      ∧ parseEvict 0 [3] = some 3 ∧ parseEvict 3 [3] = none
      ∧ parseReturn [5, 0, 1] = some (⟨5, 0⟩, true) ∧ parseReturn [5, 0, 2] = none
      ∧ parseWatch [63, 1, 1, 0, 0, 0, 2, 0, 0, 0] = some ⟨63, .persist, 1, 2⟩ := by decide +kernel

theorem test_hyps_PortStateAndRoleChecks :
    (Instr.join 1 1 []).frame = some (1, ⟨1, 0x01, []⟩) ∧ (Instr.join 1 1 []).wellFormed = true
      ∧ bench.takes 1 1 [] ∧ (bench.port 1).state ∉ (Instr.join 1 1 []).admittedIn
      ∧ (departing .orphans).takes 1 1 [] ∧ (departing .orphans).departing 1 = true
      ∧ bench.departing 1 = false ∧ (bench.port 1).state ∈ (Instr.hold 1 1 []).admittedIn
      ∧ (Instr.hold 1 1 []).isManagerRow = true ∧ bench.manager ≠ some 1
      ∧ (Instr.accept 1 1 []).isConsumerRow = true
      ∧ ((onPort 1 fun r => { r with roles := ⟨true, false⟩ }).port 1).roles.consumer = false
      ∧ (Instr.submit 1 1 []).isProducerRow = true
      ∧ ((onPort 1 fun r => { r with roles := ⟨false, true⟩ }).port 1).roles.producer = false
      ∧ (Instr.cancel 1 1 [5, 0]).isCancelRow = true
      ∧ (Instr.cancelMatch 1 1 [0, 255, 0, 0, 0, 0]).isCancelRow = true := by decide +kernel

/-- Refused blocks beside accepted ones, at the ends of their ranges, of commands that pass the role step. -/
theorem test_hyps_PortStateAndRoleChecks_block :
    bench.takes 0 1 [1] ∧ (Instr.hold 0 1 [1]).wellFormed = true
      ∧ bench.departing 0 = false ∧ (bench.port 0).state ∈ (Instr.hold 0 1 [1]).admittedIn
      ∧ bench.roleFits 0 (.hold 0 1 [1]) = true ∧ (Instr.hold 0 1 [1]).blockOk = false
      ∧ bench.roleFits 0 (.evict 0 1 [0]) = true ∧ (Instr.evict 0 1 [0]).blockOk = false
      ∧ (Instr.evict 0 1 [1]).blockOk = true
      ∧ (Instr.submit 0 1 [7, 15, 0, 0, 0, 0, 0, 0, 7, 0]).blockOk = true
      ∧ (Instr.submit 0 1 [7, 16, 0, 0, 0, 0, 0, 0, 7, 0]).blockOk = false
      ∧ (Instr.setQuota 0 1 [3, 0, 1]).blockOk = true ∧ (Instr.setQuota 0 1 [3, 1, 1]).blockOk = false
      ∧ (Instr.fetch 0 1 [8]).blockOk = true ∧ (Instr.fetch 0 1 [9]).blockOk = false
      ∧ bench.roleFits 1 (.portStatus 1 1 [0]) = false ∧ bench.roleFits 1 (.portStatus 1 1 []) = true
      ∧ (Instr.portStatus 1 1 []).blockOk = false := by decide +kernel

theorem test_hyps_JoinOpensTheSession :
    bench.takes 2 1 [3, 16, 0xFF, 15] ∧ bench.admits 2 [.idle] = true
      ∧ parseJoin [3, 16, 0xFF, 15] = some ⟨⟨true, true⟩, 16, 0xFF, 15⟩ ∧ bench.liveFails = false := by decide +kernel

theorem test_hyps_SetServiceReplacesMaskAndFloor :
    bench.takes 1 1 [0, 15] ∧ bench.takes 1 1 [0, 16] ∧ bench.admits 1 [.joined] = true
      ∧ (bench.port 1).roles.consumer = true ∧ (15 : Byte).toNat ≤ 15 ∧ 15 < (16 : Byte).toNat
      ∧ ((onPort 1 fun r => { r with roles := ⟨true, false⟩ }).port 1).roles.consumer = false
      ∧ bench.takes 2 1 [0, 15] ∧ bench.admits 2 [.joined] = false := by decide +kernel

theorem test_hyps_StatusAndCountsAreRead :
    bench.takes 0 1 [3] ∧ bench.takes 1 1 [0] ∧ bench.takes 2 1 []
      ∧ bench.admits 0 [.idle, .joined, .leaving] = true ∧ bench.admits 1 [.idle, .joined, .leaving] = true
      ∧ bench.admits 2 [.idle, .joined, .leaving] = true ∧ parseFin 4 [3] = some (3 : Port)
      ∧ bench.manager = some 0 ∧ parseFin 4 [0] = some (0 : Port) ∧ bench.manager ≠ some 1 := by decide +kernel

theorem test_hyps_ManagerClaimIsGivenAndReleased :
    bench.takes 0 1 [] ∧ bench.takes 1 1 [] ∧ bench.admits 0 [.joined] = true ∧ bench.admits 1 [.joined] = true
      ∧ { bench with manager := none }.manager = none ∧ bench.manager = some 0 := by decide +kernel

theorem test_hyps_JoinedPortsAreNotified :
    let s := onPort 1 fun r => { r with queue := List.replicate 30 (.portNotice .left) }
    (s.port 1).state = .joined ∧ (s.port 1).queue.length ≤ 30 ∧ s.owed 1 = false ∧ (s.port 2).state ≠ .joined := by
  decide +kernel

theorem test_hyps_LeaveDrainStartsTheDrain :
    bench.takes 1 1 [0, 0xFF] ∧ bench.admits 1 [.joined] = true := by decide +kernel

theorem test_hyps_WithdrawnOfferIsRequeued :
    (offeredJob.slot 5).state = .offered ∧ (offeredJob.job 5).consumer = some 1
      ∧ (offeredJob.slot 5).checkOk = true ∧ (offeredJob.port 1).state ≠ .down ∧ offeredJob.room 1 = true := by
  decide +kernel

theorem test_hyps_ForcedDepartureBegins :
    bench.takes 0 1 [1, OrphanPolicy.code .keep] ∧ bench.takes 0 1 (num1 1) ∧ bench.manager = some 0
      ∧ bench.admits 0 [.joined, .leaving] = true ∧ bench.admits 1 [.joined, .leaving] = true
      ∧ bench.takes 0 1 (num1 0) ∧ bench.takes 0 1 (num1 2)
      ∧ bench.admits 2 [.joined, .leaving] = false ∧ bench.admits 3 [.joined, .leaving] = false
      ∧ (departing .orphans).admits 1 [.joined, .leaving] = false := by decide +kernel

/-- Port `p`'s queue is full. -/
def fullQueue (s : State) (p : Port) : State :=
  s.modPort p fun r => { r with queue := List.replicate 32 (.portNotice .left) }

theorem test_hyps_DepartureStepsAtTheJobBlocks :
    (departing .withdraw).inReset = false
      ∧ ((departing .withdraw).port 1).departure.map Departure.next = some .withdraw
      ∧ ((departing .reclaim).port 1).departure.map Departure.next = some .reclaim
      ∧ ((departing .orphans).port 1).departure.map Departure.next = some .orphans
      ∧ (activeJob.slot 5).state = .active ∧ (activeJob.job 5).consumer = some 1
      ∧ (activeJob.slot 5).checkOk = true ∧ ((failing activeJob).slot 5).checkOk = false
      ∧ ((activeJob.writeJob 5 fun j => { j with cancelRequested := true }).job 5).cancelRequested = true
      ∧ (activeJob.job 5).cancelRequested = false ∧ (activeJob.job 5).attempts ≠ (activeJob.job 5).attemptLimit
      ∧ (let s := activeJob.writeJob 5 fun j => { j with attempts := 3 }
        (s.job 5).attempts = (s.job 5).attemptLimit) := by decide +kernel

/-- The produced jobs of P0 by state, with and without room for the consumer's notice. -/
theorem test_hyps_DepartureStepsAtTheJobBlocks_orphans :
    (queuedJob.job 5).producer ≠ some 1 ∧ (bench.slot 5).state.tested = false
      ∧ ((failing queuedJob).job 5).producer = some 0 ∧ ((failing queuedJob).slot 5).state.tested = true
      ∧ (doneJob.job 5).producer = some 0 ∧ (doneJob.slot 5).state = .done ∧ (doneJob.slot 5).checkOk = true
      ∧ (queuedJob.slot 5).state.live = true ∧ (offeredJob.slot 5).state.live = true
      ∧ (activeJob.slot 5).state.live = true ∧ (offeredJob.job 5).consumer = some 1
      ∧ (offeredJob.port 1).state ≠ .down ∧ offeredJob.room 1 = true ∧ (fullQueue offeredJob 1).room 1 = false
      ∧ (chained .isOpen false).inChain 5 = some 0 ∧ ((chained .isOpen false).chain 0).owner = some 0
      ∧ ((chained .isOpen false).chain 0).state = .isOpen ∧ ((chained .broken false).chain 0).state = .broken
      ∧ (bench.chain 0).state = .free ∧ (quarantinedJob.slot 5).state = .quarantined := by decide +kernel

theorem test_hyps_DepartureStepsAtFlagsAndNotices :
    (departing .watches).inReset = false
      ∧ ((departing .watches).port 1).departure.map Departure.next = some .watches
      ∧ ((departing .notices).port 1).departure.map Departure.next = some .notices
      ∧ (∀ k : WatchId, ((departing .notices).watch k).owes 1 = false)
      ∧ (let sl : Slot :=
          { Slot.empty 3 with
            state := .retiring, producerMark := some ⟨0, .jobLost⟩, consumerMarks := #v[none, some .jobLost, none, none] }
        (sl.withoutMarks 1).marked = true
          ∧ ({ sl with producerMark := none }.withoutMarks 1).marked = false) := by decide +kernel

theorem test_hyps_DepartureEnds :
    (departing .search).inReset = false
      ∧ ((departing .search).port 1).departure = some ⟨.search, .evict, .drop, false, some 0, DepCounts.zero⟩
      ∧ (let s := (departing .search).modPort 1 fun r =>
          { r with
            scan := some ⟨.cancelMatch true 0, none, 0, 0, 9⟩
            link := { r.link with inFlight := true, lastSeq := some 7 } }
        (s.port 1).scan.isSome = true ∧ (s.port 1).link.inFlight = true
          ∧ response (after (.departureScanAbandon 1) s) 1 = some ⟨7, .wrongState, []⟩) := by decide +kernel

/-- R157, R156: the EVICT of P1 is answered to P0 with the target and the counts: 1 offer withdrawn, 9 jobs reclaimed
(2, 3 and 4), 5 discarded, 6 orphaned, 259 released, 8 chain entries, 10 watches. -/
theorem test_evict_answers_its_counts :
    let s := (departing .search).modPort 1 fun r =>
      { r with departure := some ⟨.search, .evict, .drop, false, some 0, ⟨1, 2, 3, 4, 5, 6, 259, 8, 10⟩⟩ }
    response (after (.departureScanAbandon 1) s) 0
      = some ⟨0, .ok, [1, 1, 9, 2, 3, 4, 5, 0, 6, 0, 3, 1, 8, 10]⟩ := by decide +kernel

/-- A SUBMIT of class 2 with chain id `id`. -/
def submitOf (id : Nat) : SubmitParams :=
  ⟨2, 3, true, false, BitVec.ofNat 8 id, 0, 0, 0, none, []⟩

def submitBytes (id : Nat) : List Byte := [2, 3, 1, BitVec.ofNat 8 id, 0, 0, 0, 0, 0, 0]

theorem test_hyps_SubmitMakesAQueuedJob :
    bench.takes 0 1 (submitBytes 0) ∧ bench.admits 0 [.joined] = true ∧ (bench.port 0).roles.producer = true
      ∧ parseSubmit (submitBytes 0) = some (submitOf 0)
      ∧ ((onPort 0 fun r => { r with quotaCount := 63 }).port 0).quotaCount < (bench.port 0).quota
      ∧ bench.chainTarget 0 (submitOf 0) = .ok .unchained ∧ bench.freeList = 0 :: (List.finRange 256).tail
      ∧ (chained .isOpen false).chainTarget 0 (submitOf 4) = .ok (.joins 0)
      ∧ (chained .isOpen false).chainTarget 0 (submitOf 9) = .ok (.creates 1) := by decide +kernel

theorem test_hyps_SubmitMeetsItsResourceChecks :
    ((onPort 0 fun r => { r with quotaCount := 64 }).port 0).quota ≤ 64
      ∧ parseSubmit (submitBytes 4) = some (submitOf 4)
      ∧ ((chained .broken false).chain 0).state = .broken ∧ ((chained .broken false).chain 0).owner = some 0
      ∧ ((chained .broken false).chain 0).chainId = 4 ∧ ((chained .isOpen false).chain 0).cls = 2
      ∧ (∀ e : ChainId, (bench.chain e).state = .free)
      ∧ (let s := { bench with chains := Vector.replicate 64 { ChainEntry.cleared with state := .isOpen } }
        (∀ e : ChainId, (s.chain e).state ≠ .free) ∧ ∀ e : ChainId, (s.chain e).owner ≠ some 0)
      ∧ { bench with freeList := [] }.freeList = [] := by decide +kernel

theorem test_hyps_CancelActsByTheJobState :
    queuedJob.takes 0 1 (handleBytes ⟨5, 0⟩) ∧ queuedJob.admits 0 [.joined, .leaving] = true
      ∧ queuedJob.handleOk ⟨5, 0⟩ = true ∧ queuedJob.testFails 5 = false ∧ (queuedJob.slot 5).state = .queued
      ∧ (queuedJob.job 5).producer = some 0 ∧ (queuedJob.job 5).producer ≠ some 1 ∧ queuedJob.manager ≠ some 1
      ∧ (offeredJob.slot 5).state = .offered ∧ (offeredJob.job 5).consumer = some 1
      ∧ (activeJob.slot 5).state = .active ∧ (activeJob.job 5).cancelRequested = false
      ∧ ((activeJob.writeJob 5 fun j => { j with cancelRequested := true }).job 5).cancelRequested = true
      ∧ (doneJob.slot 5).state = .done ∧ (quarantinedJob.slot 5).state = .quarantined := by decide +kernel

theorem test_hyps_ReapReleasesADoneJob :
    doneJob.takes 0 1 (handleBytes ⟨5, 0⟩) ∧ doneJob.admits 0 [.joined, .leaving] = true
      ∧ (doneJob.port 0).roles.producer = true ∧ doneJob.handleOk ⟨5, 0⟩ = true ∧ doneJob.testFails 5 = false
      ∧ (doneJob.job 5).producer = some 0 ∧ (doneJob.slot 5).state = .done
      ∧ (doneJob.job 5).finish = some .success ∧ (queuedJob.slot 5).state ≠ .done := by decide +kernel

theorem test_hyps_ChainResetFreesABrokenEntry :
    (4 : Byte) ≠ 0 ∧ (chained .broken false).takes 0 1 [4]
      ∧ (chained .broken false).admits 0 [.joined, .leaving] = true
      ∧ ((chained .broken false).chain 0).owner = some 0 ∧ ((chained .broken false).chain 0).chainId = 4
      ∧ ((chained .broken false).chain 0).state = .broken
      ∧ ((chained .broken false).chain 0).breakRec = some (⟨5, 0⟩, 1)
      ∧ ((chained .isOpen false).chain 0).state = .isOpen ∧ ∀ e : ChainId, (bench.chain e).state = .free := by
  decide +kernel

theorem test_hyps_PurgeReleasesAQuarantinedSlot :
    quarantinedJob.takes 0 1 (num1 5) ∧ quarantinedJob.takes 1 1 (num1 5) ∧ quarantinedJob.manager = some 0
      ∧ quarantinedJob.admits 0 [.joined, .leaving] = true ∧ quarantinedJob.admits 1 [.joined, .leaving] = true
      ∧ (quarantinedJob.slot 5).state = .quarantined ∧ (queuedJob.slot 5).state ≠ .quarantined := by decide +kernel

/-- The QUEUED job with a promotion due under an age step of 10 and a ceiling. -/
def ageing (ceiling : Nat) : State :=
  { queuedJob.modSlot 5 (fun sl => { sl with promoDue := 1 }) with
    policy := Vector.replicate 8 ⟨100, 2000, 3, 10, ceiling⟩ }

theorem test_hyps_AgePromotionRaisesUrgency :
    queuedJob.inReset = false ∧ (queuedJob.slot 5).state = .queued ∧ (queuedJob.slot 5).promoDue = 0
      ∧ 0 < ((ageing 4).slot 5).promoDue ∧ ((ageing 4).slot 5).checkOk = true
      ∧ ((ageing 4).policyOf 2).ageStep ≠ 0 ∧ ((ageing 4).job 5).urgency < ((ageing 4).policyOf 2).ageCeiling
      ∧ ((ageing 3).policyOf 2).ageCeiling ≤ ((ageing 3).job 5).urgency := by decide +kernel

theorem test_hyps_InsertionKeepsTheKeyOrder : queuedJob.inOrder [5, 6] ∧ queuedJob.ahead 5 6 = true := by
  decide +kernel

theorem test_hyps_OfferIsAcceptedOrDeclined :
    offeredJob.takes 1 1 (handleBytes ⟨5, 0⟩) ∧ offeredJob.admits 1 [.joined, .leaving] = true
      ∧ (offeredJob.port 1).roles.consumer = true ∧ offeredJob.handleOk ⟨5, 0⟩ = true
      ∧ offeredJob.testFails 5 = false ∧ (offeredJob.slot 5).state = .offered
      ∧ (offeredJob.job 5).consumer = some 1 ∧ (offeredJob.job 5).consumer ≠ some 0
      ∧ (activeJob.slot 5).state = .active ∧ (activeJob.job 5).consumer = some 1 := by decide +kernel

theorem test_hyps_OfferGoesToTheHighestRanked :
    { bench with hold := true }.hold = true ∧ bench.hold = false ∧ bench.ranked = []
      ∧ queuedJob.hold = false ∧ queuedJob.ranked = [] ++ 5 :: [] ∧ queuedJob.front 5 = 5
      ∧ queuedJob.testFails 5 = false ∧ queuedJob.choosePort 5 = some 0 := by decide +kernel

/-- Two QUEUED jobs, in slots 5 and 6, of which the first fails its test. -/
def twoQueued (second : Bool) : State :=
  ((failing queuedJob).modSlot 6 fun sl => { sl with state := .queued, checkOk := second, job := sample }).modQueue 2
    fun _ => [5, 6]

/-- The failing front of the ranking is quarantined, and behind it stands a failing or a sound record. -/
theorem test_hyps_OfferGoesToTheHighestRanked_failing :
    let u := (twoQueued false).quarantine 5
    let v := (twoQueued true).quarantine 5
    (twoQueued false).ranked = [] ++ 5 :: [6] ∧ (twoQueued false).testFails ((twoQueued false).front 5) = true
      ∧ u.ranked = [] ++ 6 :: [] ∧ u.testFails (u.front 6) = true
      ∧ v.ranked = [6] ∧ v.testFails (v.front 6) = false
      ∧ ((after .offer (twoQueued true)).slot 6).state = .offered
      ∧ ((after .offer (twoQueued true)).slot 5).state = .quarantined := by decide +kernel

theorem test_hyps_RankingAndConsumerChoice :
    let s := (chained .isOpen false).modChain 0 fun c => { c with lastConsumer := some 1 }
    s.inChain 5 = some 0 ∧ (s.chain 0).lastConsumer = some 1 ∧ s.eligible 5 1 = true ∧ s.load 1 = s.load 0
      ∧ s.choosePort 5 = some 1 := by decide +kernel

theorem test_hyps_OfferWindowExpiryCountsAMiss :
    offeredJob.inReset = false ∧ queuedJob.offerDue 5 = false ∧ (offeredJob.slot 5).state = .offered
      ∧ (offeredJob.slot 5).checkOk = true ∧ (offeredJob.job 5).consumer = some 1
      ∧ (offeredJob.job 5).deadline = some 1000 ∧ offeredJob.ticksTo 1000 = 0
      ∧ ((offeredJob.modPort 1 fun r => { r with missed := 1 }).port 1).missed < 2
      ∧ ((offeredJob.modPort 1 fun r => { r with missed := 2 }).port 1).missed = 2
      ∧ 3 ≤ ((offeredJob.modPort 1 fun r => { r with missed := 3 }).port 1).missed := by decide +kernel

theorem test_hyps_HandleRecordAndHolderTests :
    let c := Instr.renew 1 1 [5, 0, 9, 0]
    c.frame = some (1, ⟨1, 0x22, [5, 0, 9, 0]⟩) ∧ activeJob.takes 1 1 [5, 0, 9, 0]
      ∧ activeJob.admits 1 c.admittedIn = true ∧ activeJob.roleFits 1 c = true ∧ c.handleOf = some ⟨5, 0⟩
      ∧ c.isHolderRow = true ∧ (Instr.cancel 1 1 [5, 0]).isQuery = false ∧ (bench.slot 5).state = .free
      ∧ (failing activeJob).testFails 5 = true ∧ (failing activeJob).handleOk ⟨5, 0⟩ = true
      ∧ (quarantinedJob.slot 5).state = .quarantined
      ∧ ((queuedJob.writeJob 5 fun j => { j with reclaimedFrom := some 1 }).job 5).reclaimedFrom = some 1
      ∧ (queuedJob.job 5).reclaimedFrom ≠ some 1 ∧ (offeredJob.job 5).consumer = some 1
      ∧ (activeJob.job 5).consumer ≠ some 0 ∧ (doneJob.slot 5).state = .done := by decide +kernel

theorem test_hyps_RenewAndReturnOfTheHolder :
    activeJob.takes 1 1 [5, 0, 0, 0] ∧ activeJob.takes 1 1 [5, 0, 1]
      ∧ activeJob.admits 1 [.joined, .leaving] = true ∧ (activeJob.port 1).roles.consumer = true
      ∧ activeJob.handleOk (activeJob.handle 5) = true ∧ (activeJob.slot 5).state = .active
      ∧ (activeJob.slot 5).checkOk = true ∧ (activeJob.job 5).consumer = some 1
      ∧ parseRenew [5, 0, 0, 0] = some (activeJob.handle 5, 0)
      ∧ parseReturn [5, 0, 1] = some (activeJob.handle 5, true) ∧ (activeJob.job 5).cancelRequested = false
      ∧ ((activeJob.writeJob 5 fun j => { j with cancelRequested := true }).job 5).cancelRequested = true := by
  decide +kernel

theorem test_hyps_CompleteFinishesTheJob :
    activeJob.takes 1 1 [5, 0, 1, 7, 0] ∧ parseComplete [5, 0, 1, 7, 0] = some ⟨⟨5, 0⟩, .failed, 7, []⟩
      ∧ parseComplete [5, 0, 2, 7, 0] = some ⟨⟨5, 0⟩, .cancelled, 7, []⟩
      ∧ (activeJob.job 5).cancelRequested = false ∧ activeJob.handleOk ⟨5, 0⟩ = true := by decide +kernel

theorem test_hyps_LeaseExpiryDisposesOfTheJob :
    activeJob.inReset = false ∧ queuedJob.leaseDue 5 = false ∧ (activeJob.job 5).deadline = some 1000
      ∧ activeJob.ticksTo 1000 = 0 ∧ (activeJob.job 5).attempts ≠ (activeJob.job 5).attemptLimit
      ∧ (let s := activeJob.writeJob 5 fun j => { j with attempts := 3 }
        (s.job 5).attempts = (s.job 5).attemptLimit)
      ∧ ((activeJob.writeJob 5 fun j => { j with cancelRequested := true }).job 5).cancelRequested = true := by
  decide +kernel

theorem test_hyps_FailingRecordIsQuarantined :
    (failing activeJob).testFails 5 = true ∧ (failing activeJob).inChain 5 = none
      ∧ (failing (chained .isOpen false)).inChain 5 = some 0
      ∧ ((failing (chained .isOpen false)).chain 0).strict = false
      ∧ ((failing activeJob).job 5).producer = some 0 ∧ ((failing activeJob).job 5).consumer = some 1
      ∧ (activeJob.port 0).state ≠ .down ∧ activeJob.room 0 = true ∧ activeJob.room 1 = true
      ∧ (failing activeJob).leaseDue 5 = true ∧ (failing offeredJob).offerDue 5 = true
      ∧ 0 < ((failing (ageing 4)).slot 5).promoDue := by decide +kernel

theorem test_hyps_FinishedJobIsReportedOrReleased :
    (queuedJob.slot 5).state = .queued ∧ (queuedJob.job 5).action = none ∧ queuedJob.inChain 5 = none
      ∧ (queuedJob.job 5).producer = some 0 ∧ (queuedJob.job 5).report = true ∧ (queuedJob.port 0).state ≠ .down
      ∧ queuedJob.room 0 = true
      ∧ ((queuedJob.writeJob 5 fun j => { j with report := false }).job 5).report = false
      ∧ ((activeJob.leaveConsumer 5).job 5).consumer = none
      ∧ (chained .isOpen false).inChain 5 = some 0 ∧ ((chained .isOpen false).chain 0).strict = false
      ∧ ((queuedJob.writeJob 5 fun j => { j with producer := none }).job 5).producer = none
      ∧ (let s := queuedJob.writeJob 5 fun j => { j with action := some ⟨63, .or, .anyFinish, 1, 1⟩ }
        let w := (s.leaveLive 5).applyCombine 63 .or 1 1
        (s.job 5).action = some ⟨63, .or, .anyFinish, 1, 1⟩ ∧ (w.port 0).state ≠ .down ∧ w.room 0 = true) := by
  decide +kernel

theorem test_hyps_ChainBreakFinishesTheList :
    (chained .isOpen true).sound ∧ ((chained .isOpen true).chain 0).list.Nodup
      ∧ ((chained .isOpen true).job 5).chain = some (4, 0) ∧ (chained .isOpen true).inChain 5 = some 0
      ∧ ((chained .isOpen true).chain 0).strict = true ∧ ((chained .isOpen true).chain 0).owner = some 0
      ∧ ((chained .isOpen true).port 0).state ≠ .down
      ∧ (let orphaned := (chained .isOpen true).modChain 0 fun c => { c with owner := none }
        (orphaned.chain 0).owner = none)
      ∧ (let ended (s : State) := ((s.chain 0).list.foldl breakJob (s, 0)).1
        (ended (chained .isOpen true)).room 0 = true ∧ (ended (fullQueue (chained .isOpen true) 0)).room 0 = false)
      ∧ (failing queuedJob).testFails 5 = true ∧ queuedJob.testFails 5 = false
      ∧ (offeredJob.slot 5).state = .offered ∧ (offeredJob.job 5).consumer = some 1
      ∧ (activeJob.slot 5).state = .active ∧ (activeJob.job 5).consumer = some 1 := by decide +kernel

theorem test_hyps_CloseOfAnEvent :
    (∀ p : Port, (bench.port p).state ≠ .leaving)
      ∧ (let s := departing .orphans
        (s.port 1).state = .leaving ∧ (s.port 1).departure ≠ none)
      ∧ (let s := onPort 1 fun r => { r with state := .leaving }
        (s.port 1).state = .leaving ∧ (s.port 1).departure = none ∧ (s.port 1).workingSet = []
          ∧ s.produced 1 = [] ∧ (s.port 1).scan = none ∧ (s.port 1).queue.length < 32
          ∧ s.owed 1 = false ∧ (allChains.all fun e => (s.chain e).owed == none) = true
          ∧ ((fullQueue s 1).port 1).queue.length = 32) := by decide +kernel

/-- P0 drains, with a BROKEN entry and a QUARANTINED job of its own (R153 step 1). -/
def drained : State :=
  (quarantinedJob.modPort 0 fun r => { r with state := .leaving }).modChain 0 fun c =>
    { c with state := .broken, owner := some 0, chainId := 4 }

theorem test_drain_end_frees_a_broken_entry :
    drained.drainOver 0 = true ∧ (orphanChain 0 .drop (drained, DepCounts.zero) 0).1.chain 0 = ChainEntry.cleared
      ∧ ((clearQuarantined 0 drained 5).job 5).producer = none := by decide +kernel

theorem test_hyps_CombineReplacesMaskedBits :
    bench.flagWord 63 = 0
      ∧ ((queuedJob.writeJob 5 fun j => { j with action := some ⟨63, .or, .anyFinish, 1, 1⟩ }).job 5).action
        = some ⟨63, .or, .anyFinish, 1, 1⟩ := by decide +kernel

theorem test_hyps_FlagReadAndCombine :
    bench.takes 0 1 (num1 63) ∧ bench.admits 0 [.joined, .leaving] = true
      ∧ parseCombine ([9, 2, 0, 0] ++ List.replicate 12 0) = some ⟨9, .or, false, false, 0, 0, 0⟩
      ∧ parseCombine ([9, 2, 1, 1] ++ List.replicate 12 0) = some ⟨9, .or, true, true, 0, 0, 0⟩
      ∧ (bench.port 0).latch = none
      ∧ ((onPort 0 fun r => { r with latch := some (9, 1) }).port 0).latch = some (9, 1) := by decide +kernel

/-- Watch entry 0 of P0 on word 9, pattern 1 under care mask 1. -/
def watching (mode : WatchMode) (last : Bool) : State :=
  bench.modWatch 0 fun _ => ⟨.armed, some 0, 9, 1, 1, mode, last, none⟩

theorem test_hyps_WatchEvaluation :
    ((watching .once false).watch 0).owner = some 0 ∧ ((watching .once false).port 0).state ≠ .down
      ∧ ((1 : Word) &&& 1 = 1 &&& 1) ∧ ((2 : Word) &&& 1 ≠ 1 &&& 1) ∧ (watching .once false).room 0 = true
      ∧ ((watching .once false).modPort 0 fun r =>
          { r with queue := List.replicate 32 (.portNotice .left) }).room 0 = false
      ∧ ((watching .persist true).watch 0).lastMatched = true
      ∧ ((watching .persist false).watch 0).mode = .persist ∧ (bench.watch 3).state ≠ .armed
      ∧ ((watching .once false).watch 0).state = .armed ∧ ((watching .once false).watch 0).flag = 9 := by decide +kernel

/-- Every watch entry is taken. -/
def allWatched : State :=
  { bench with watches := Vector.replicate 16 ⟨.armed, some 1, 0, 0, 0, .once, false, none⟩ }

theorem test_hyps_WatchIsSetAndCleared :
    bench.takes 0 1 ([63, 0] ++ List.replicate 8 0) ∧ bench.admits 0 [.joined] = true
      ∧ parseWatch ([63, 0] ++ List.replicate 8 0) = some ⟨63, .once, 0, 0⟩ ∧ (bench.watch 0).state = .free
      ∧ (∀ k : WatchId, (allWatched.watch k).state ≠ .free)
      ∧ bench.takes 0 1 (num1 15) ∧ bench.admits 0 [.joined, .leaving] = true
      ∧ ((watching .once false).watch 0).owner = some 0 ∧ ((watching .once false).watch 0).owner ≠ some 1 := by
  decide +kernel

theorem test_hyps_FetchTakesFromTheHead :
    bench.takes 2 1 (num1 8) ∧ bench.takes 2 1 (num1 1) ∧ bench.admits 2 [.idle, .joined, .leaving] = true := by
  decide +kernel

/-- R125, R134: with one free entry the first of two owed hits of P0 is delivered. -/
theorem test_hyps_OwedMarksAreDeliveredInOrder_watches :
    let pend (m : WatchMode) (w : Watch) : Watch :=
      { w with state := .pending, owner := some 0, flag := 9, care := 1, mode := m, held := some 1 }
    let s := ((onPort 0 fun r => { r with queue := List.replicate 31 (.portNotice .left) }).modWatch 0
      (pend .persist)).modWatch 1 (pend .once)
    let t := deliverWatch 0 (deliverWatch 0 s 0) 1
    (t.watch 0).state = .armed ∧ (t.watch 0).lastMatched = true ∧ (t.watch 0).held = none ∧ t.watch 1 = s.watch 1
      ∧ (s.watch 0).state = .pending ∧ (s.watch 0).mode = .persist
      ∧ (deliverWatch 0 (s.modPort 0 fun r => { r with queue := [] }) 1).watch 1 = Watch.cleared := by decide +kernel

theorem test_hyps_OwedMarksAreDeliveredInOrder :
    ((onPort 0 fun r => { r with queue := List.replicate 32 (.portNotice .left) }).port 0).queue.length ≤ 32
      ∧ bench.owed 0 = false := by decide +kernel

theorem test_hyps_JobNoticesAreQueuedOrOwed :
    (bench.port 3).state = .down ∧ (bench.port 0).state ≠ .down ∧ (bench.port 0).queue.length < 32
      ∧ bench.owed 0 = false
      ∧ 32 ≤ ((onPort 0 fun r => { r with queue := List.replicate 32 (.portNotice .left) }).port 0).queue.length
      ∧ (onPort 0 fun r => { r with notices := { r.notices with left := true } }).owed 0 = true := by decide +kernel

theorem test_hyps_QueryReportsAVisibleJob :
    activeJob.takes 1 1 (handleBytes ⟨5, 0⟩) ∧ activeJob.admits 1 [.joined, .leaving] = true
      ∧ activeJob.handleOk ⟨5, 0⟩ = true ∧ activeJob.testFails 5 = false ∧ (activeJob.job 5).consumer = some 1
      ∧ (activeJob.job 5).deadline = some 1000 ∧ (offeredJob.job 5).deadline = some 1000
      ∧ (queuedJob.slot 5).state = .queued ∧ (doneJob.job 5).finish = some .success
      ∧ quarantinedJob.handleOk ⟨5, 0⟩ = true ∧ (queuedJob.job 5).producer ≠ some 1
      ∧ queuedJob.manager ≠ some 1 ∧ (queuedJob.job 5).consumer ≠ some 1
      ∧ (failing activeJob).handleOk ⟨5, 0⟩ = true ∧ (failing activeJob).testFails 5 = true
      ∧ (let v := (failing activeJob).quarantine 5
        (v.slot 5).state = .quarantined ∧ (v.job 5).lostHolder = some 1 ∧ (v.job 5).producer ≠ some 2
          ∧ (v.job 5).lostHolder ≠ some 2) := by decide +kernel

theorem test_hyps_ScansBegin :
    bench.takes 0 1 [0, 1, 255, 0, 0, 0, 0] ∧ bench.admits 0 [.joined, .leaving] = true
      ∧ (parseFind [0, 1, 255, 0, 0, 0, 0]).map FindParams.continues = some false
      ∧ (parseFind [1, 1, 7, 0, 0, 0, 0]).map FindParams.continues = some true
      ∧ ((onPort 0 fun r => { r with cursor := 255 }).port 0).cursor = (255 : SlotId).val
      ∧ ((onPort 0 fun r => { r with cursor := 256 }).port 0).cursor = 256
      ∧ parseCancelMatch [1, 255, 0, 0, 0, 0] = some ⟨true, none, 0, 0⟩ ∧ (bench.port 0).roles.producer = true
      ∧ ((onPort 1 fun r => { r with roles := ⟨false, true⟩ }).port 1).roles.producer = false
      ∧ bench.manager ≠ some 1 := by decide +kernel

/-- The QUEUED job with a scan of P0 about to visit slot `i`. -/
def scanning (k : ScanKind) (i : SlotId) : State :=
  queuedJob.modPort 0 fun r =>
    { r with scan := some ⟨k, none, 0, 0, i⟩, link := { r.link with inFlight := true } }

theorem test_hyps_ScanVisitJudgesOneSlot :
    let k := ScanKind.find ⟨true, false, false, false, false⟩ (List.replicate 7 (⟨0, 0⟩, .queued))
    queuedJob.inReset = false ∧ (queuedJob.port 0).scan = none ∧ ((scanning k 5).port 0).departure = none
      ∧ ((scanning k 5).port 0).scan = some ⟨k, none, 0, 0, 5⟩ ∧ ((scanning k 5).port 0).link.inFlight = true
      ∧ (scanning k 5).testFails 5 = false ∧ (scanning k 5).visible 5 0 = true
      ∧ ((scanning k 255).slot 255).state = .free
      ∧ ((scanning (.cancelMatch true 0) 5).slot 5).state = .queued
      ∧ (offeredJob.slot 5).state = .offered ∧ (offeredJob.job 5).producer = some 0 := by decide +kernel

/-- A scan of P0, the manager, at the last slot with a job there. -/
def lastScan (st : SlotState) : State :=
  (scanning (.cancelMatch true 255) 255).modSlot 255 fun sl => { sl with state := st, job := sample }

theorem test_hyps_ScanVisitJudgesOneSlot_last :
    ((lastScan .queued).slot 255).state = .queued ∧ ((lastScan .offered).slot 255).state = .offered
      ∧ ((lastScan .queued).port 0).departure = none ∧ (lastScan .queued).testFails 255 = false
      ∧ ((lastScan .queued).port 0).scan = some ⟨.cancelMatch true 255, none, 0, 0, 255⟩
      ∧ ((lastScan .queued).port 0).link.inFlight = true ∧ (lastScan .queued).manager = some 0
      ∧ response (after (.scanVisit 0) (lastScan .queued)) 0 = some ⟨0, .ok, [0, 1]⟩ := by decide +kernel

/-- A failing record is found in state QUARANTINED by a FIND for that state. -/
theorem test_hyps_ScanVisitJudgesOneSlot_failing :
    let s := failing (scanning (.find ⟨false, false, false, false, true⟩ []) 5)
    s.testFails 5 = true ∧ (s.port 0).departure = none ∧ (s.port 0).link.inFlight = true
      ∧ ((after (.scanVisit 0) s).port 0).scan.map Scan.kind
        = some (.find ⟨false, false, false, false, true⟩ [(⟨5, 0⟩, .quarantined)]) := by decide +kernel

theorem test_hyps_ManagerSettings :
    bench.takes 0 1 [] ∧ bench.takes 0 1 (num1 7) ∧ bench.takes 0 1 (num2 65535) ∧ bench.takes 0 1 (num1 3 ++ num2 256)
      ∧ bench.takes 0 1 [OrphanPolicy.code .keep] ∧ bench.takes 0 1 [2, 100, 3, 15, 1, 0, 0, 0]
      ∧ bench.admits 0 [.joined, .leaving] = true ∧ bench.manager = some 0 ∧ bench.hold = false
      ∧ { bench with hold := true }.hold = true
      ∧ parsePolicy [2, 100, 3, 15, 1, 0, 0, 0] = some (2, ⟨100, 1, 3, 0, 15⟩) := by decide +kernel

theorem test_hyps_ClearAllEmptiesTheStore :
    let s := (watching .persist true).modPort 1 fun r => { r with state := .leaving }
    s.takes 0 1 [] ∧ s.admits 0 [.joined, .leaving] = true ∧ s.manager = some 0
      ∧ (s.port 1).state = .leaving ∧ (s.port 1).departure = none ∧ (s.port 2).scan = none := by decide +kernel

/-- A FIND of P1 with one hit, stopped by the clear: one handle with its state, and the cursor (R172). -/
theorem test_hyps_ClearAllEmptiesTheStore_scan :
    let s := bench.modPort 1 fun r =>
      { r with
        cursor := 6, scan := some ⟨.find ⟨true, false, false, false, false⟩ [(⟨5, 0⟩, .queued)], none, 0, 0, 6⟩
        link := { r.link with inFlight := true, lastSeq := some 3 } }
    s.takes 0 1 [] ∧ (s.port 1).scan.isSome = true ∧ (s.port 1).link.inFlight = true
      ∧ response (after (.clearAll 0 1 []) s) 1 = some ⟨3, .interrupted, [1, 5, 0, 1, 6, 0]⟩ := by decide +kernel

/-! The power-on state and the bench meet the laws that every step keeps, and steps are taken from them. -/

theorem test_hyps_StepKeepsTheQueueBound :
    (State.reset.queuesFit ∧ bench.queuesFit) ∧ step bench = .next bench.refclk := ⟨by decide +kernel, rfl⟩

theorem test_hyps_StepKeepsTheClaimLaw :
    (State.reset.claimLaw ∧ bench.claimLaw) ∧ step bench = .next bench.refclk := ⟨by decide +kernel, rfl⟩

theorem test_hyps_GenerationsChangeAtFreeAlone :
    let s := { quarantinedJob with pending := [.purge 0 1 [5]] }
    let t := hostFrame 0 1 [5] (purgeBody 0 [5]) { s with pending := [] }
    (s.pending.head? ≠ some .resetNAssert ∧ (s.slot 5).state ≠ .free ∧ (t.slot 5).state = .free)
      ∧ step s = .next t := ⟨by decide +kernel, rfl⟩

end Sys2Proof.Tests
end

section
/-! PROOFS. Generations (R4, R18, R19). Within an event no slot enters FREE and no generation changes
(`State.Steady`); the close of the event, or CLEAR_ALL, then moves slots into FREE with the next generation
(`State.Turns`). Each shared operation is steady, said once for each; each command's event is steady up to one
close. -/

namespace Sys2Proof.Machine

/-- From `s` to `t` no slot enters FREE and every slot keeps its generation. -/
def State.Steady (s t : State) : Prop :=
  ∀ i : SlotId, (t.slot i).gen = (s.slot i).gen ∧ ((t.slot i).state = .free → (s.slot i).state = .free)

theorem State.Steady.refl (s : State) : s.Steady s := fun _ => ⟨rfl, id⟩

theorem State.Steady.trans {s t u : State} (h : s.Steady t) (h' : t.Steady u) : s.Steady u :=
  fun i => ⟨(h' i).1.trans (h i).1, fun hf => (h i).2 ((h' i).2 hf)⟩

/-- Equal slots are the same slots, read one by one. -/
theorem State.slot_eq_of_slots {s t : State} (h : t.slots = s.slots) (i : SlotId) : t.slot i = s.slot i := by
  rw [State.slot, State.slot, h]

section
variable {s t : State} (h : s.Steady t)
include h

/-- A change outside the slots is steady. -/
theorem State.Steady.rest {u : State} (hu : u.slots = t.slots) : s.Steady u :=
  h.trans fun i => by rw [State.slot_eq_of_slots hu i]; exact ⟨rfl, id⟩

/-- A change of one slot that keeps its generation and does not free it is steady. -/
theorem State.Steady.modSlot (i : SlotId) {f : Slot → Slot}
    (hf : ∀ sl, (f sl).gen = sl.gen ∧ ((f sl).state = .free → sl.state = .free)) : s.Steady (t.modSlot i f) :=
  h.trans fun j => by
    rw [State.modSlot_slot]
    split
    next e => subst e; exact hf _
    next => exact ⟨rfl, id⟩

theorem State.Steady.writeSlot (i : SlotId) {f : Slot → Slot}
    (hf : ∀ sl, (f sl).gen = sl.gen ∧ ((f sl).state = .free → sl.state = .free)) : s.Steady (t.writeSlot i f) :=
  h.modSlot i hf

theorem State.Steady.writeJob (i : SlotId) (f : Job → Job) : s.Steady (t.writeJob i f) :=
  h.writeSlot i fun _ => ⟨rfl, id⟩

theorem State.Steady.modPort (p : Port) (f : PortRec → PortRec) : s.Steady (t.modPort p f) := h.rest rfl

theorem State.Steady.modChain (e : ChainId) (f : ChainEntry → ChainEntry) : s.Steady (t.modChain e f) := h.rest rfl

theorem State.Steady.modWatch (k : WatchId) (f : Watch → Watch) : s.Steady (t.modWatch k f) := h.rest rfl

theorem State.Steady.enqueue (p : Port) (e : Event) : s.Steady (t.enqueue p e) := h.rest rfl

/-! ### Notices -/

theorem State.Steady.setConsumerMark (i : SlotId) (p : Port) (n : Option ConsumerNotice) :
    s.Steady (t.setConsumerMark i p n) := h.writeSlot i fun _ => ⟨rfl, id⟩

theorem State.Steady.setProducerMark (i : SlotId) (m : Option ProducerMark) : s.Steady (t.setProducerMark i m) :=
  h.writeSlot i fun _ => ⟨rfl, id⟩

theorem State.Steady.tellProducer (i : SlotId) (n : ProducerNotice) : s.Steady (t.tellProducer i n) := by
  unfold State.tellProducer
  split
  · exact State.notify_elim h (h.enqueue _ _) (h.setProducerMark _ _)
  · exact h

theorem State.Steady.notifyConsumer (i : SlotId) (p : Port) (n : ConsumerNotice) :
    s.Steady (t.notifyConsumer i p n) := State.notify_elim h (h.enqueue _ _) (h.setConsumerMark _ _ _)

theorem State.Steady.tellConsumer (i : SlotId) (p : Option Port) (n : ConsumerNotice) :
    s.Steady (t.tellConsumer i p n) := by
  unfold State.tellConsumer
  split
  · exact h.notifyConsumer _ _ _
  · exact h

theorem State.Steady.notifyPort (p : Port) (n : PortNotice) : s.Steady (t.notifyPort p n) :=
  State.notify_elim h (h.enqueue _ _) (h.modPort _ _)

theorem State.Steady.notifyJoined (n : PortNotice) : s.Steady (t.notifyJoined n) :=
  foldl_keeps (fun _ p ht => by split; exacts [ht.notifyPort _ _, ht]) _ h

/-! ### Collections -/

theorem State.Steady.leaveQueue (i : SlotId) : s.Steady (t.leaveQueue i) := h.rest rfl

theorem State.Steady.enterQueue (i : SlotId) : s.Steady (t.enterQueue i) := h.rest rfl

theorem State.Steady.requeue (i : SlotId) : s.Steady (t.requeue i) :=
  State.Steady.enterQueue (h.writeSlot i (by exact fun _ => ⟨rfl, nofun⟩)) i

theorem State.Steady.leaveChain (i : SlotId) : s.Steady (t.leaveChain i) := by
  unfold State.leaveChain
  split
  · exact h.modChain _ _
  · exact h

theorem State.Steady.leaveConsumer (i : SlotId) : s.Steady (t.leaveConsumer i) := by
  unfold State.leaveConsumer
  apply State.Steady.writeJob
  split
  · exact h.modPort _ _
  · exact h

theorem State.Steady.leaveCollection (i : SlotId) : s.Steady (t.leaveCollection i) := by
  unfold State.leaveCollection
  split
  · exact h.leaveQueue i
  · exact h.leaveConsumer i
  · exact h.leaveConsumer i
  · exact h

theorem State.Steady.endCount (i : SlotId) : s.Steady (t.endCount i) := by
  unfold State.endCount
  split
  · exact h.modPort _ _
  · exact h

theorem State.Steady.release (i : SlotId) : s.Steady (t.release i) := by
  unfold State.release
  refine State.Steady.modSlot ?_ i fun _ => ⟨rfl, nofun⟩
  split
  · exact h
  · exact h.endCount i

theorem State.Steady.dropProducerMark (i : SlotId) (p : Port) : s.Steady (t.dropProducerMark i p) := by
  unfold State.dropProducerMark
  split
  · exact h.setProducerMark _ _
  · exact h

/-! ### Flags -/

theorem State.Steady.evalWatch (k : WatchId) (v : Word) : s.Steady (t.evalWatch k v) :=
  h.rest (by rw [State.evalWatch_rest])

theorem State.Steady.applyCombine (f : FlagId) (fn : CombineFn) (operand mask : Word) :
    s.Steady (t.applyCombine f fn operand mask) := h.rest (by rw [State.applyCombine_rest])

theorem State.Steady.freeWatches (p : Port) : s.Steady (t.freeWatches p) :=
  (foldl_keeps (fun _ k ht => ht.modWatch k _) _ h).modPort p _

/-! ### The end of a job -/

theorem State.Steady.leaveLive (i : SlotId) : s.Steady (t.leaveLive i) :=
  ((h.leaveCollection i).leaveChain i).writeSlot i fun _ => ⟨rfl, id⟩

theorem State.Steady.applyAction (i : SlotId) (st : FinishStatus) : s.Steady (t.applyAction i st) := by
  unfold State.applyAction
  split
  · split
    · exact h.applyCombine _ _ _ _
    · exact h
  · exact h

theorem State.Steady.record (i : SlotId) (st : FinishStatus) : s.Steady (t.record i st) := by
  unfold State.record
  split
  · exact State.Steady.tellProducer (h.writeSlot i (by exact fun _ => ⟨rfl, nofun⟩)) i _
  · exact h.release i

theorem State.Steady.finishTail (i : SlotId) (st : FinishStatus) : s.Steady (t.finishTail i st) :=
  (h.applyAction i st).record i st

theorem State.Steady.enterQuarantine (i : SlotId) : s.Steady (t.enterQuarantine i) :=
  (((h.leaveCollection i).leaveChain i).endCount i).modSlot i fun _ => ⟨rfl, nofun⟩

theorem State.Steady.passLost (i : SlotId) (o : Option Port) : s.Steady (t.passLost i o) :=
  (h.tellProducer _ _).tellConsumer _ _ _

theorem State.Steady.endHold (i : SlotId) : s.Steady (t.endHold i) := by
  unfold State.endHold
  split
  · exact (h.leaveConsumer i).tellConsumer _ _ _
  · exact (h.leaveConsumer i).tellConsumer _ _ _
  · exact h

omit h in
theorem State.Steady.breakJob {a : State × Nat} (h : s.Steady a.1) (j : SlotId) : s.Steady (breakJob a j).1 := by
  unfold Machine.breakJob
  split
  · exact (h.enterQuarantine j).passLost _ _
  · exact ((h.endHold j).leaveLive j).finishTail _ _

theorem State.Steady.passChainBroken (e : ChainId) (x : Handle) (n : Nat) : s.Steady (t.passChainBroken e x n) := by
  unfold State.passChainBroken
  split
  · exact State.notify_elim h (h.enqueue _ _) (h.modChain _ _)
  · exact h

theorem State.Steady.breakChain (e : ChainId) (x : Handle) : s.Steady (t.breakChain e x) := by
  have hl : s.Steady ((t.chain e).list.foldl Machine.breakJob (t, 0)).1 :=
    foldl_keeps (P := fun a : State × Nat => s.Steady a.1) (fun _ j ha => ha.breakJob j) _ h
  exact (hl.modChain _ _).passChainBroken _ _ _

theorem State.Steady.breakIfStrict (o : Option ChainId) (x : Handle) : s.Steady (t.breakIfStrict o x) := by
  unfold State.breakIfStrict
  split
  · split
    · exact h.breakChain _ _
    · exact h
  · exact h

theorem State.Steady.quarantine (i : SlotId) : s.Steady (t.quarantine i) :=
  ((h.enterQuarantine i).breakIfStrict _ _).passLost _ _

theorem State.Steady.readRecord (i : SlotId) : s.Steady (t.readRecord i) := by
  unfold State.readRecord
  split
  · exact h.quarantine i
  · exact h

theorem State.Steady.finishJob (i : SlotId) (st : FinishStatus) : s.Steady (t.finishJob i st) := by
  unfold State.finishJob
  apply State.Steady.finishTail
  split
  · exact (h.leaveLive i).breakIfStrict _ _
  · exact h.leaveLive i

theorem State.Steady.cancelOffered (i : SlotId) : s.Steady (t.cancelOffered i) :=
  ((h.leaveConsumer i).tellConsumer _ _ _).finishJob _ _

/-! ### Orphan handling -/

theorem State.Steady.discard (i : SlotId) (p : Port) : s.Steady (t.discard i p) := by
  unfold State.discard
  refine ((State.Steady.leaveChain ?_ i).dropProducerMark i p).release i
  split
  · exact (h.leaveCollection i).tellConsumer _ _ _
  · exact (h.leaveCollection i).tellConsumer _ _ _
  · exact h.leaveCollection i

omit h in
theorem State.Steady.orphanSlot (p : Port) (o : OrphanPolicy) {a : State × DepCounts} (h : s.Steady a.1)
    (i : SlotId) : s.Steady (orphanSlot p o a i).1 := by
  unfold Machine.orphanSlot
  dsimp only
  split
  · exact h
  · split
    · exact h.quarantine i
    · split
      · exact (h.dropProducerMark i p).release i
      · split
        · exact h.discard i p
        · exact (h.endCount i).writeJob i _

theorem State.Steady.clearQuarantined (p : Port) (i : SlotId) : s.Steady (clearQuarantined p t i) := by
  unfold Machine.clearQuarantined
  split
  · exact h.modSlot i fun _ => ⟨rfl, id⟩
  · exact h

end

/-- Orphan handling of a chain entry leaves the slots alone (R109). -/
@[simp] theorem orphanChain_slots (p : Port) (o : OrphanPolicy) (a : State × DepCounts) (e : ChainId) :
    (orphanChain p o a e).1.slots = a.1.slots := by
  unfold orphanChain
  dsimp only
  split
  · dsimp only; split <;> rfl
  · rfl

/-- Orphan handling of the chain entries leaves the slots alone (R109). -/
theorem foldl_orphanChain_slots (p : Port) (o : OrphanPolicy) (l : List ChainId) (a : State × DepCounts) :
    (l.foldl (orphanChain p o) a).1.slots = a.1.slots :=
  foldl_keeps (P := fun b : State × DepCounts => b.1.slots = a.1.slots)
    (fun _ _ hb => (orphanChain_slots _ _ _ _).trans hb) l rfl

theorem State.Steady.orphanHandling {s t : State} (h : s.Steady t) (p : Port) (o : OrphanPolicy) (n : DepCounts) :
    s.Steady (t.orphanHandling p o n).1 := by
  unfold State.orphanHandling
  generalize allSlots = l, allChains = m
  have hs : s.Steady (l.foldl (Machine.orphanSlot p o) (t, n)).1 :=
    foldl_keeps (P := fun a : State × DepCounts => s.Steady a.1) (fun _ i ha => ha.orphanSlot p o i) _ h
  exact foldl_keeps (fun _ i ht => ht.clearQuarantined p i) _ (hs.rest (foldl_orphanChain_slots _ _ _ _))

end Sys2Proof.Machine
end

section
/-! PROOFS. Generations, continued: the commands' own parts are steady. -/

namespace Sys2Proof.Machine

section
variable {s t : State} (h : s.Steady t)
include h

/-! ### Sessions -/

theorem State.Steady.undecline (p : Port) (i : SlotId) : s.Steady (undecline p t i) := by
  unfold Machine.undecline
  repeat' split
  · exact h.quarantine i
  · exact h.writeJob i _
  · exact h
  · exact h

omit h in
theorem State.Steady.withdrawOffer (p : Port) (told : Bool) {a : State × Nat} (h : s.Steady a.1) (i : SlotId) :
    s.Steady (withdrawOffer p told a i).1 := by
  unfold Machine.withdrawOffer
  dsimp only
  split
  · split
    · exact h.quarantine i
    · split
      · exact ((h.leaveConsumer i).requeue i).notifyConsumer _ _ _
      · exact (h.leaveConsumer i).requeue i
  · exact h

theorem State.Steady.withdrawOffers (p : Port) (told : Bool) : s.Steady (t.withdrawOffers p told).1 := by
  unfold State.withdrawOffers
  exact foldl_keeps (P := fun a : State × Nat => s.Steady a.1) (fun _ i ha => ha.withdrawOffer p told i) _ h

theorem State.Steady.dropClaim : s.Steady t.dropClaim := by
  have h0 : s.Steady { t with manager := none } := h.rest rfl
  have h1 : s.Steady { t with manager := none, hold := false } := h.rest rfl
  unfold State.dropClaim
  dsimp only
  split
  · exact (h1.notifyJoined _).notifyJoined _
  · exact h0.notifyJoined _

theorem State.Steady.beginDeparture (p : Port) (c : DepCause) (o : OrphanPolicy) (a : Option Port) :
    s.Steady (t.beginDeparture p c o a) := by
  unfold State.beginDeparture
  apply State.Steady.modPort
  split
  · exact h.dropClaim
  · exact h

/-! ### Leases -/

theorem State.Steady.dropCancelRequest (i : SlotId) (p : Port) : s.Steady (t.dropCancelRequest i p) := by
  unfold State.dropCancelRequest
  split
  · exact h.setConsumerMark _ _ _
  · exact h

theorem State.Steady.takeLease (i : SlotId) (p : Port) : s.Steady (t.takeLease i p) :=
  (h.leaveConsumer i).writeJob i _

theorem State.Steady.dispose (i : SlotId) (d : Disposition) : s.Steady (t.dispose i d) := by
  unfold State.dispose
  split
  · exact h.finishJob _ _
  · exact h.finishJob _ _
  · exact h.requeue i

theorem State.Steady.expireLease (i : SlotId) (p : Port) : s.Steady (t.expireLease i p) :=
  ((h.takeLease i p).notifyConsumer _ _ _).dispose _ _

omit h in
theorem State.Steady.reclaimJob (p : Port) {a : State × DepCounts} (h : s.Steady a.1) (i : SlotId) :
    s.Steady (reclaimJob p a i).1 := by
  unfold Machine.reclaimJob
  dsimp only
  split
  · split
    · exact h.quarantine i
    · exact (h.takeLease i p).dispose _ _
  · exact h

/-! ### Jobs -/

theorem State.Steady.joinChain (p : Port) (a : SubmitParams) (i : SlotId) (c : ChainTarget) :
    s.Steady (t.joinChain p a i c) := by
  unfold State.joinChain
  split
  · exact h
  · exact h.modChain _ _
  · exact h.modChain _ _

/-- The slot that a SUBMIT fills keeps its generation (R23). -/
theorem State.Steady.submitJob (p : Port) (a : SubmitParams) (i : SlotId) (c : ChainTarget) :
    s.Steady (t.submitJob p a i c) := by
  have h1 : s.Steady (t.modSlot i fun sl =>
      { Slot.empty sl.gen with state := .queued, job := t.newJob p a c }) := h.modSlot i fun _ => ⟨rfl, nofun⟩
  unfold State.submitJob
  refine State.Steady.enterQueue (State.Steady.joinChain ?_ p a i c) i
  exact h1.rest rfl

theorem State.Steady.requestCancel (i : SlotId) : s.Steady (t.requestCancel i) := by
  unfold State.requestCancel
  split
  · exact h
  · exact (h.writeJob i _).tellConsumer _ _ _

theorem State.Steady.dropJobDone (i : SlotId) : s.Steady (t.dropJobDone i) := by
  unfold State.dropJobDone
  split
  · exact h.setProducerMark _ _
  · exact h

theorem State.Steady.promote (i : SlotId) : s.Steady (t.promote i) := by
  have h1 : s.Steady (t.modSlot i fun sl => { sl with promoDue := sl.promoDue - 1 }) :=
    h.modSlot i fun _ => ⟨rfl, id⟩
  unfold State.promote
  dsimp only
  split
  · exact ((h1.leaveQueue i).writeJob i _).enterQueue i
  · exact h1

/-! ### Offers -/

theorem State.Steady.acceptJob (i : SlotId) (p : Port) : s.Steady (t.acceptJob i p) := by
  unfold State.acceptJob
  dsimp only
  split
  · exact .modChain (.modPort (h.writeSlot i (by exact fun _ => ⟨rfl, nofun⟩)) p _) _ _
  · exact .modPort (h.writeSlot i (by exact fun _ => ⟨rfl, nofun⟩)) p _

theorem State.Steady.declineJob (i : SlotId) (p : Port) : s.Steady (t.declineJob i p) :=
  ((h.leaveConsumer i).writeJob i _).requeue i

theorem State.Steady.makeOffer (i : SlotId) (p : Port) : s.Steady (t.makeOffer i p) := by
  have h1 : s.Steady ((t.leaveQueue i).writeSlot i fun sl =>
      { sl with
        state := .offered
        promoDue := 0
        job := { sl.job with
          consumer := some p
          deadline := some (t.after (t.policyOf (t.job i).cls).offerWindow)
          queuedSince := none } }) := (h.leaveQueue i).writeSlot i fun _ => ⟨rfl, nofun⟩
  exact h1.rest rfl

/-- An OFFER quarantines failing records and moves one job to OFFERED (R49, R50). -/
theorem State.Steady.dispatch (fuel : Nat) (b : Bool) : s.Steady (State.dispatch fuel b t).1 := by
  induction fuel generalizing t b with
  | zero => exact h
  | succ n ih =>
    unfold State.dispatch
    split
    · exact h
    · split
      · exact ih (h.quarantine _) true
      · split
        · exact h.makeOffer _ _
        · exact h

theorem State.Steady.missOffer (p : Port) : s.Steady (t.missOffer p) := by
  unfold State.missOffer
  dsimp only
  split
  · split
    · split
      · exact (((h.modPort p _).modPort p _).notifyPort _ _).notifyPort _ _
      · exact ((h.modPort p _).modPort p _).notifyPort _ _
    · exact h.modPort p _
  · exact h

theorem State.Steady.expireOffer (i : SlotId) (p : Port) : s.Steady (t.expireOffer i p) :=
  ((h.declineJob i p).notifyConsumer _ _ _).missOffer p

/-! ### Flags, notices and search -/

theorem State.Steady.flagCombine (p : Port) (c : CombineParams) : s.Steady (t.flagCombine p c) := by
  unfold State.flagCombine
  apply State.Steady.modPort
  split
  · exact h.applyCombine _ _ _ _
  · exact h

theorem State.Steady.deliverNotice (p : Port) : s.Steady (deliverNotice p t) := by
  unfold Machine.deliverNotice
  split
  · exact (h.enqueue _ _).modPort _ _
  · exact h

theorem State.Steady.deliverSlot (p : Port) (i : SlotId) : s.Steady (deliverSlot p t i) := by
  have h1 : s.Steady (deliverProducer p t i) := by
    unfold Machine.deliverProducer
    split
    · exact (h.enqueue _ _).setProducerMark _ _
    · exact h
  unfold Machine.deliverSlot Machine.deliverConsumer
  split
  · exact (h1.enqueue _ _).setConsumerMark _ _ _
  · exact h1

theorem State.Steady.deliverChain (p : Port) (e : ChainId) : s.Steady (deliverChain p t e) := by
  unfold Machine.deliverChain
  split
  · exact (h.enqueue _ _).modChain _ _
  · exact h

theorem State.Steady.deliverWatch (p : Port) (k : WatchId) : s.Steady (deliverWatch p t k) := by
  unfold Machine.deliverWatch
  split
  · exact (h.enqueue _ _).modWatch _ _
  · exact h

theorem State.Steady.deliver (p : Port) : s.Steady (t.deliver p) := by
  unfold State.deliver
  exact foldl_keeps (fun _ k ht => ht.deliverWatch p k) _ (foldl_keeps (fun _ e ht => ht.deliverChain p e) _
    (foldl_keeps (fun _ i ht => ht.deliverSlot p i) _ (nat_repeat_keeps (fun _ ht => ht.deliverNotice p) _ h)))

theorem State.Steady.discardSlotMarks (p : Port) (i : SlotId) : s.Steady (discardSlotMarks p t i) := by
  rw [discardSlotMarks_eq]
  exact h.modSlot i fun _ => ⟨rfl, id⟩

theorem State.Steady.discardChainMark (p : Port) (e : ChainId) : s.Steady (discardChainMark p t e) := by
  unfold Machine.discardChainMark
  split
  · exact h.modChain _ _
  · exact h

theorem State.Steady.cancelAtVisit (i : SlotId) : s.Steady (t.cancelAtVisit i) := by
  unfold State.cancelAtVisit
  split
  · exact h.cancelOffered i
  · exact h.finishJob _ _

theorem State.Steady.answerInFlight (p : Port) (r : Reply) : s.Steady (t.answerInFlight p r) := by
  unfold State.answerInFlight
  split
  · exact h.rest rfl
  · exact h

theorem State.Steady.advanceScan (p : Port) (sc : Scan) (k : ScanKind) : s.Steady (t.advanceScan p sc k) := by
  unfold State.advanceScan
  dsimp only
  split <;> split
  · exact ((h.modPort p _).modPort p _).answerInFlight p _
  · exact (h.modPort p _).modPort p _
  · exact (h.modPort p _).answerInFlight p _
  · exact h.modPort p _

/-- One visit of a scan reads one record and cancels at most one job (R167, R170). -/
theorem State.Steady.visit (p : Port) (sc : Scan) : s.Steady (t.visit p sc) := by
  have h1 := h.readRecord sc.next
  unfold State.visit
  dsimp only
  split
  · exact h1.advanceScan _ _ _
  · split
    · exact (h1.cancelAtVisit _).advanceScan _ _ _
    · exact h1.advanceScan _ _ _

/-! ### Device control -/

theorem State.Steady.interruptScan (p : Port) : s.Steady (interruptScan t p) := by
  unfold Machine.interruptScan
  split
  · exact (h.modPort p _).answerInFlight p _
  · exact h

theorem State.Steady.freeDrained (p : Port) : s.Steady (freeDrained t p) := by
  unfold Machine.freeDrained
  split
  · exact h.freeWatches p
  · exact h

theorem State.Steady.clearWatch (k : WatchId) : s.Steady (t.clearWatch k) := by
  unfold State.clearWatch
  split
  · exact h.modWatch k _
  · exact h

end

/-- A slot read from slots that are all changed alike. -/
theorem State.slot_of_mapV {s t : State} {f : Slot → Slot} (h : t.slots = mapV f s.slots) (i : SlotId) :
    t.slot i = f (s.slot i) := by simp [State.slot, h]

/-- A tick counts promotion instants and leaves states and generations alone (R177). -/
theorem State.tick_steady (s : State) : s.Steady s.tick := fun i => by
  have hi : s.tick.slot i = _ := State.slot_of_mapV rfl i
  rw [hi]
  split <;> exact ⟨rfl, id⟩

/-- A new policy row withdraws due promotions at most (R181). -/
theorem State.setPolicy_steady (s : State) (c : ClassId) (r : ClassPolicy) : s.Steady (s.setPolicy c r) := by
  have h0 : s.Steady { s with policy := s.policy.set c r } := (State.Steady.refl s).rest rfl
  unfold State.setPolicy
  dsimp only
  split
  · exact h0
  · refine h0.trans fun i => ?_
    rw [State.withdrawPromotions, State.slot_of_mapV rfl i]
    split <;> exact ⟨rfl, id⟩

end Sys2Proof.Machine
end

section
/-! PROOFS. Generations, concluded: slots enter FREE at the close of an event or by CLEAR_ALL, and each command's event
has one of these at most. -/

namespace Sys2Proof.Machine

/-! ### Entering FREE -/

/-- From `s` to `t` each slot keeps its generation and does not enter FREE, or is FREE with the next generation
(R4, R9, R19). -/
def State.Turns (s t : State) : Prop :=
  ∀ i : SlotId, ((t.slot i).gen = (s.slot i).gen ∧ ((t.slot i).state = .free → (s.slot i).state = .free))
    ∨ ((t.slot i).state = .free ∧ (t.slot i).gen = (s.slot i).gen + 1)

theorem State.Steady.turns {s t : State} (h : s.Steady t) : s.Turns t := fun i => .inl (h i)

theorem State.Turns.refl (s : State) : s.Turns s := (State.Steady.refl s).turns

/-- After the turn only states and generations count: an update that keeps both may follow. -/
theorem State.Turns.sameLives {s t u : State} (h : s.Turns t)
    (hu : ∀ i, (u.slot i).state = (t.slot i).state ∧ (u.slot i).gen = (t.slot i).gen) : s.Turns u := fun i => by
  rw [(hu i).1, (hu i).2]
  exact h i

theorem State.Turns.rest {s t u : State} (h : s.Turns t) (hu : u.slots = t.slots) : s.Turns u :=
  h.sameLives fun i => by rw [State.slot_eq_of_slots hu i]; exact ⟨rfl, rfl⟩

/-- An update outside the slots may come before. -/
theorem State.Turns.of_slots {s t u : State} (h : t.Turns u) (ht : t.slots = s.slots) : s.Turns u := fun i => by
  rw [← State.slot_eq_of_slots ht i]
  exact h i

/-- The free list's step at the close: RETIRING slots without marks turn (R9, R12). -/
theorem State.Steady.closeSlots_turns {s t : State} (h : s.Steady t) : s.Turns t.closeSlots := fun i => by
  rw [State.closeSlots_slot]
  split
  · exact .inr ⟨rfl, congrArg (· + 1) (h i).1⟩
  · exact .inl (h i)

/-! ### The close of an event -/

/-- Orphan handling has nothing to do at a slot that is not the port's (R106). -/
theorem orphanSlot_of_not_produced {s : State} {p : Port} (hp : s.produced p = []) (o : OrphanPolicy) (n : DepCounts)
    (i : SlotId) : orphanSlot p o (s, n) i = (s, n) := by
  have hi := List.filter_eq_nil_iff.mp hp i (List.mem_finRange i)
  simp only [orphanSlot, hi, Bool.not_false, if_true]

theorem foldl_orphanSlot_of_not_produced {s : State} {p : Port} (hp : s.produced p = []) (o : OrphanPolicy)
    (n : DepCounts) (l : List SlotId) : l.foldl (orphanSlot p o) (s, n) = (s, n) :=
  foldl_keeps (P := fun a => a = (s, n)) (fun _ i ha => by rw [ha, orphanSlot_of_not_produced hp]) l rfl

/-- Clearing the port from a QUARANTINED slot changes fields of its job alone (R109). -/
theorem clearQuarantined_sameLives (p : Port) (s : State) (i j : SlotId) :
    ((clearQuarantined p s i).slot j).state = (s.slot j).state
      ∧ ((clearQuarantined p s i).slot j).gen = (s.slot j).gen := by
  unfold clearQuarantined
  split
  · rw [State.modSlot_slot]
    split
    next e => subst e; exact ⟨rfl, rfl⟩
    next => exact ⟨rfl, rfl⟩
  · exact ⟨rfl, rfl⟩

/-- A port that produces nothing leaves every slot in its state and generation (R106 to R109). -/
theorem State.orphanHandling_sameLives {s : State} {p : Port} (hp : s.produced p = []) (o : OrphanPolicy)
    (n : DepCounts) (j : SlotId) :
    ((s.orphanHandling p o n).1.slot j).state = (s.slot j).state
      ∧ ((s.orphanHandling p o n).1.slot j).gen = (s.slot j).gen := by
  unfold State.orphanHandling
  rw [foldl_orphanSlot_of_not_produced hp]
  generalize allSlots = l, allChains = m
  dsimp only
  refine foldl_keeps (P := fun t : State => (t.slot j).state = (s.slot j).state ∧ (t.slot j).gen = (s.slot j).gen)
    (fun t i ht => ?_) l ?_
  · obtain ⟨hst, hg⟩ := clearQuarantined_sameLives p t i j
    exact ⟨hst.trans ht.1, hg.trans ht.2⟩
  · rw [State.slot_eq_of_slots (foldl_orphanChain_slots p o m (s, n)) j]
    exact ⟨rfl, rfl⟩

/-- A port notice leaves the slots alone. -/
theorem State.notifyPort_slots (s : State) (p : Port) (n : PortNotice) : (s.notifyPort p n).slots = s.slots := by
  rw [State.notifyPort_rest]

theorem State.freeWatches_slots (s : State) (p : Port) : (s.freeWatches p).slots = s.slots :=
  foldl_keeps (P := fun t : State => t.slots = s.slots) (f := fun t k => t.modWatch k fun _ => Watch.cleared)
    (fun _ _ ht => ht) (s.watchesOf p) rfl

/-- What follows orphan handling at the end of a drain leaves the slots alone (R153 steps 2 to 6). -/
theorem State.endDrainTail_slots (t : State) (p : Port) :
    ((((t.modPort p fun r => { r with missed := 0, stalled := false }).freeWatches p).modPort p fun r =>
      { r.endSession with cursor := 0, state := .idle }).notifyPort p .left).slots = t.slots := by
  rw [State.notifyPort_slots, State.modPort_slots, State.freeWatches_slots, State.modPort_slots]

theorem State.endDrain_slots (s : State) (p : Port) :
    (s.endDrain p).slots = (s.orphanHandling p s.orphanPolicy DepCounts.zero).1.slots := by
  unfold State.endDrain
  exact State.endDrainTail_slots _ p

/-- The end of a drain moves no slot: the port has no jobs left (R153). -/
theorem closeDrain_sameLives (s : State) (p : Port) (j : SlotId) :
    ((closeDrain s p).slot j).state = (s.slot j).state ∧ ((closeDrain s p).slot j).gen = (s.slot j).gen := by
  unfold closeDrain
  split
  next hd =>
    have hp : s.produced p = [] := by
      simp only [State.drainOver, Bool.and_eq_true, List.isEmpty_iff] at hd
      exact hd.1.2
    rw [State.slot_eq_of_slots (State.endDrain_slots s p) j]
    exact State.orphanHandling_sameLives hp _ _ j
  next => exact ⟨rfl, rfl⟩

theorem State.Steady.closeChain {s t : State} (h : s.Steady t) (e : ChainId) : s.Steady (closeChain t e) := by
  unfold Machine.closeChain
  dsimp only
  split
  · exact h.modChain e _
  · exact h

/-- An event that is steady up to its close turns slots at the close alone (R99). -/
theorem State.Steady.close_turns {s t : State} (h : s.Steady t) : s.Turns t.close := by
  unfold State.close
  generalize allChains = m, allPorts = l
  have hs : s.Steady (m.foldl Machine.closeChain t) := foldl_keeps (fun _ e ht => ht.closeChain e) m h
  exact foldl_keeps (fun u p hu => hu.sameLives (closeDrain_sameLives u p)) l hs.closeSlots_turns

theorem State.Steady.closeIf_turns {s t : State} (h : s.Steady t) (b : Bool) : s.Turns (t.closeIf b) := by
  unfold State.closeIf
  split
  · exact h.close_turns
  · exact h.turns

/-! ### The parts of the checking order -/

/-- A check that refuses changes nothing. -/
theorem State.Turns.guard {s : State} {b : Prop} [Decidable b] {st : Status} {k : Taken} (hk : s.Turns k.1) :
    s.Turns (if b then refuse st s else k).1 := by
  split
  · exact .refl s
  · exact hk

/-- A reply leaves the command's state as it is. -/
theorem State.Turns.accepted {s t : State} (h : s.Turns t) (data : List Byte) : s.Turns (accepted data t).1 := h

theorem State.Steady.closing_turns {s : State} {k : Taken} (h : s.Steady k.1) : s.Turns (closing k).1 := by
  obtain ⟨t, r⟩ := k
  have ht : s.Steady t := h
  rw [closing_some]
  dsimp only
  exact ht.close_turns

/-- An accepted command whose own part is steady turns slots at its close (R99). -/
theorem State.Steady.closed {s t : State} (h : s.Steady t) (data : List Byte) :
    s.Turns (closing (accepted data t)).1 := State.Steady.closing_turns (k := accepted data t) h

theorem managerCommand_turns {α : Type} {p : Port} {params : Option α} {s : State} {k : α → Taken}
    (hk : ∀ a, s.Turns (k a).1) : s.Turns (managerCommand p params s k).1 := by
  unfold managerCommand
  refine .guard (.guard ?_)
  split
  · exact .refl s
  · exact hk _

theorem onJob_turns {h : Handle} {s : State} {k : Taken} (hk : s.Turns k.1) : s.Turns (onJob h s k).1 := by
  unfold onJob
  refine .guard ?_
  split
  · exact State.Steady.closing_turns ((State.Steady.refl s).quarantine _)
  · exact .guard hk

theorem heldCommand_turns {α : Type} {p : Port} {params : Option α} {handle : α → Handle} {s : State}
    {k : α → Taken} (hk : ∀ a, s.Turns (k a).1) : s.Turns (heldCommand p params handle s k).1 := by
  unfold heldCommand
  refine .guard (.guard ?_)
  split
  · exact .refl s
  · apply onJob_turns
    split
    · exact .refl s
    · exact hk _

theorem offerCommand_turns {p : Port} {ps : List Byte} {s : State} {k : Handle → Taken}
    (hk : ∀ h, s.Turns (k h).1) : s.Turns (offerCommand p ps s k).1 := by
  unfold offerCommand
  refine .guard (.guard ?_)
  split
  · exact .refl s
  · exact onJob_turns (.guard (.guard (.guard (hk _))))

/-! ### The commands -/

theorem joinBody_turns (p : Port) (ps : List Byte) (s : State) : s.Turns (joinBody p ps s).1 := by
  unfold joinBody
  refine .guard ?_
  split
  · exact .refl s
  · refine (State.Steady.closeIf_turns (.modPort ?_ p _) _).accepted _
    exact foldl_keeps (fun _ i ht => ht.undecline p i) _ ((State.Steady.refl s).modPort p _)

theorem setServiceBody_turns (p : Port) (ps : List Byte) (s : State) : s.Turns (setServiceBody p ps s).1 := by
  unfold setServiceBody
  refine .guard (.guard ?_)
  split
  · exact .refl s
  · exact (State.Turns.refl s).rest rfl

/-- A LEAVE DRAIN withdraws the port's offers and closes its event once (R152). -/
theorem leaveDrain_turns (p : Port) (s : State) : s.Turns (leaveDrain p s).1 := by
  have h0 : s.Steady (if s.isManager p then s.dropClaim else s) := by
    split
    · exact (State.Steady.refl s).dropClaim
    · exact .refl s
  unfold leaveDrain
  exact ((h0.modPort p _).withdrawOffers p true).close_turns.accepted _

theorem leaveBody_turns (p : Port) (ps : List Byte) (s : State) : s.Turns (leaveBody p ps s).1 := by
  unfold leaveBody
  refine .guard ?_
  split
  · exact .refl s
  · exact leaveDrain_turns p s
  · exact ((State.Steady.refl s).beginDeparture _ _ _ _).turns

theorem portStatusBody_turns (p : Port) (ps : List Byte) (s : State) : s.Turns (portStatusBody p ps s).1 := by
  unfold portStatusBody
  refine .guard (.guard ?_)
  split <;> exact .refl s

theorem claimManagerBody_turns (p : Port) (ps : List Byte) (s : State) : s.Turns (claimManagerBody p ps s).1 := by
  have h1 : s.Steady { s with manager := some p } := (State.Steady.refl s).rest rfl
  unfold claimManagerBody
  refine .guard ?_
  split
  · exact .refl s
  · split
    · exact (h1.notifyJoined _).turns.accepted _
    · split <;> exact .refl s

theorem releaseManagerBody_turns (p : Port) (ps : List Byte) (s : State) : s.Turns (releaseManagerBody p ps s).1 := by
  unfold releaseManagerBody
  refine .guard (.guard ?_)
  split
  · exact .refl s
  · exact (State.Steady.refl s).dropClaim.turns.accepted _

theorem submitBody_turns (p : Port) (ps : List Byte) (s : State) : s.Turns (submitBody p ps s).1 := by
  unfold submitBody
  refine .guard (.guard ?_)
  split
  · exact .refl s
  · refine .guard ?_
    split
    · exact .refl s
    · split
      · exact .refl s
      · exact ((State.Steady.refl s).submitJob _ _ _ _).turns.accepted _

theorem cancelBody_turns (p : Port) (ps : List Byte) (s : State) : s.Turns (cancelBody p ps s).1 := by
  have h0 := State.Steady.refl s
  unfold cancelBody
  refine .guard (.guard ?_)
  split
  · exact .refl s
  · refine onJob_turns (.guard ?_)
    split
    · exact (h0.finishJob _ _).closed _
    · exact (h0.cancelOffered _).closed _
    · exact (h0.requestCancel _).turns.accepted _
    · exact .refl s

theorem reapBody_turns (p : Port) (ps : List Byte) (s : State) : s.Turns (reapBody p ps s).1 := by
  unfold reapBody
  refine .guard (.guard ?_)
  split
  · exact .refl s
  · exact onJob_turns (.guard (.guard
      ((((State.Steady.refl s).dropJobDone _).release _).closed _)))

theorem chainResetBody_turns (p : Port) (ps : List Byte) (s : State) : s.Turns (chainResetBody p ps s).1 := by
  unfold chainResetBody
  refine .guard (.guard ?_)
  split
  · exact .refl s
  · split
    · exact .refl s
    · exact .guard ((State.Turns.refl s).rest rfl)

theorem acceptBody_turns (p : Port) (ps : List Byte) (s : State) : s.Turns (acceptBody p ps s).1 :=
  offerCommand_turns fun _ => ((State.Steady.refl s).acceptJob _ p).turns.accepted _

theorem declineBody_turns (p : Port) (ps : List Byte) (s : State) : s.Turns (declineBody p ps s).1 :=
  offerCommand_turns fun _ => ((State.Steady.refl s).declineJob _ p).turns.accepted _

theorem renewBody_turns (p : Port) (ps : List Byte) (s : State) : s.Turns (renewBody p ps s).1 :=
  heldCommand_turns fun _ => ((State.Steady.refl s).writeJob _ _).turns.accepted _

theorem returnBody_turns (p : Port) (ps : List Byte) (s : State) : s.Turns (returnBody p ps s).1 := by
  have h0 := State.Steady.refl s
  refine heldCommand_turns fun a => ?_
  dsimp only
  split
  · exact (((h0.leaveConsumer _).dropCancelRequest _ p).finishJob _ _).closed _
  · exact ((((h0.dropCancelRequest _ p).leaveConsumer _).writeJob _ _).requeue _).closed _

theorem completeBody_turns (p : Port) (ps : List Byte) (s : State) : s.Turns (completeBody p ps s).1 :=
  heldCommand_turns fun _ => .guard
    ((((((State.Steady.refl s).leaveConsumer _).writeJob _ _).dropCancelRequest _ p).finishJob _ _).closed _)

theorem flagReadBody_turns (p : Port) (ps : List Byte) (s : State) : s.Turns (flagReadBody p ps s).1 := by
  unfold flagReadBody
  refine .guard ?_
  split
  · exact .refl s
  · exact (State.Turns.refl s).rest rfl

theorem flagCombineBody_turns (p : Port) (ps : List Byte) (s : State) : s.Turns (flagCombineBody p ps s).1 := by
  unfold flagCombineBody
  refine .guard ?_
  split
  · exact .refl s
  · exact .guard (((State.Steady.refl s).flagCombine _ _).turns.accepted _)

theorem watchSetBody_turns (p : Port) (ps : List Byte) (s : State) : s.Turns (watchSetBody p ps s).1 := by
  unfold watchSetBody
  refine .guard ?_
  split
  · exact .refl s
  · split
    · exact .refl s
    · exact (((State.Steady.refl s).modWatch _ _).evalWatch _ _).turns.accepted _

theorem watchClearBody_turns (p : Port) (ps : List Byte) (s : State) : s.Turns (watchClearBody p ps s).1 := by
  unfold watchClearBody
  refine .guard ?_
  split
  · exact .refl s
  · exact .guard ((State.Turns.refl s).rest rfl)

/-- A FETCH delivers owed marks and frees the RETIRING slots that it leaves without any (R134, R12). -/
theorem fetchBody_turns (p : Port) (ps : List Byte) (s : State) : s.Turns (fetchBody p ps s).1 := by
  unfold fetchBody
  refine .guard ?_
  split
  · exact .refl s
  · exact (((State.Steady.refl s).modPort p _).deliver p).closeSlots_turns.accepted _

theorem queryBody_turns (p : Port) (ps : List Byte) (s : State) : s.Turns (queryBody p ps s).1 := by
  have hq : ∀ (t : State) (i : SlotId), (answerQuery p i t).1 = t := fun t i => by
    unfold answerQuery
    split <;> rfl
  unfold queryBody
  refine .guard ?_
  split
  · exact .refl s
  · refine .guard ?_
    split
    · refine State.Steady.closing_turns ?_
      rw [hq]
      exact (State.Steady.refl s).quarantine _
    · rw [hq]
      exact .refl s

theorem findBody_turns (p : Port) (ps : List Byte) (s : State) : s.Turns (findBody p ps s).1 := by
  unfold findBody
  refine .guard ?_
  split
  · exact .refl s
  · dsimp only
    split
    all_goals
      split <;> exact (State.Turns.refl s).rest rfl

theorem cancelMatchBody_turns (p : Port) (ps : List Byte) (s : State) : s.Turns (cancelMatchBody p ps s).1 := by
  unfold cancelMatchBody
  refine .guard (.guard ?_)
  split
  · exact .refl s
  · exact (State.Turns.refl s).rest rfl

theorem readCountsBody_turns (p : Port) (ps : List Byte) (s : State) : s.Turns (readCountsBody p ps s).1 := by
  unfold readCountsBody
  refine .guard ?_
  split <;> exact .refl s

theorem holdBody_turns (p : Port) (ps : List Byte) (s : State) : s.Turns (holdBody p ps s).1 := by
  have h1 : s.Steady { s with hold := true } := (State.Steady.refl s).rest rfl
  refine managerCommand_turns fun _ => ?_
  dsimp only [accepted]
  split
  · exact .refl s
  · exact (h1.notifyJoined _).turns

theorem resumeBody_turns (p : Port) (ps : List Byte) (s : State) : s.Turns (resumeBody p ps s).1 := by
  have h1 : s.Steady { s with hold := false } := (State.Steady.refl s).rest rfl
  refine managerCommand_turns fun _ => ?_
  dsimp only [accepted]
  split
  · exact (h1.notifyJoined _).turns
  · exact .refl s

theorem setClassPolicyBody_turns (p : Port) (ps : List Byte) (s : State) : s.Turns (setClassPolicyBody p ps s).1 :=
  managerCommand_turns fun _ => .guard ((s.setPolicy_steady _ _).turns.accepted _)

theorem evictBody_turns (p : Port) (ps : List Byte) (s : State) : s.Turns (evictBody p ps s).1 :=
  managerCommand_turns fun _ => .guard ((State.Steady.refl s).beginDeparture _ _ _ _).turns

theorem purgeBody_turns (p : Port) (ps : List Byte) (s : State) : s.Turns (purgeBody p ps s).1 :=
  managerCommand_turns fun _ => .guard (((State.Steady.refl s).release _).closeSlots_turns.accepted _)

/-- CLEAR_ALL frees every slot that is not FREE with the next generation (R19, R186). -/
theorem State.clearAll_turns (s : State) : s.Turns s.clearAll := by
  unfold State.clearAll
  generalize hw : allWatches = m, hp : allPorts = l
  have hs : s.Steady (m.foldl State.clearWatch (l.foldl Machine.freeDrained (l.foldl Machine.interruptScan s))) :=
    foldl_keeps (fun _ k ht => ht.clearWatch k) m (foldl_keeps (fun _ p ht => ht.freeDrained p) l
      (foldl_keeps (fun _ p ht => ht.interruptScan p) l (State.Steady.refl s)))
  intro i
  rw [State.slot_of_mapV (s := m.foldl _ _) rfl i]
  by_cases hf : (State.slot (m.foldl State.clearWatch (l.foldl freeDrained (l.foldl interruptScan s))) i).state = .free
  · exact .inl ⟨by simp [Slot.clear, Slot.empty, hf, (hs i).1], fun _ => (hs i).2 hf⟩
  · exact .inr ⟨rfl, by simp [Slot.clear, Slot.empty, hf, (hs i).1]⟩

theorem clearAllBody_turns (p : Port) (ps : List Byte) (s : State) : s.Turns (clearAllBody p ps s).1 :=
  managerCommand_turns fun _ => s.clearAll_turns.accepted _

/-- Whatever command a taken frame carries, its event turns slots and does no more to their generations. -/
theorem commandBody_turns (p : Port) (f : Frame) (s : State) : s.Turns (commandBody p f s).1 := by
  have rest {u : State} (hu : u.slots = s.slots) : s.Turns u := (State.Turns.refl s).rest hu
  unfold commandBody
  split
  · exact joinBody_turns _ _ s
  · exact setServiceBody_turns _ _ s
  · exact leaveBody_turns _ _ s
  · exact leaveBody_turns _ _ s
  · exact portStatusBody_turns _ _ s
  · exact claimManagerBody_turns _ _ s
  · exact releaseManagerBody_turns _ _ s
  · exact submitBody_turns _ _ s
  · exact cancelBody_turns _ _ s
  · exact reapBody_turns _ _ s
  · exact chainResetBody_turns _ _ s
  · exact acceptBody_turns _ _ s
  · exact declineBody_turns _ _ s
  · exact renewBody_turns _ _ s
  · exact returnBody_turns _ _ s
  · exact completeBody_turns _ _ s
  · exact flagReadBody_turns _ _ s
  · exact flagCombineBody_turns _ _ s
  · exact watchSetBody_turns _ _ s
  · exact watchClearBody_turns _ _ s
  · exact fetchBody_turns _ _ s
  · exact queryBody_turns _ _ s
  · exact findBody_turns _ _ s
  · exact cancelMatchBody_turns _ _ s
  · exact readCountsBody_turns _ _ s
  · exact holdBody_turns _ _ s
  · exact resumeBody_turns _ _ s
  · exact managerCommand_turns fun _ => rest rfl
  · exact managerCommand_turns fun _ => rest rfl
  · exact setClassPolicyBody_turns _ _ s
  · exact managerCommand_turns fun _ => rest rfl
  · exact managerCommand_turns fun _ => rest rfl
  · exact managerCommand_turns fun _ => rest rfl
  · exact evictBody_turns _ _ s
  · exact purgeBody_turns _ _ s
  · exact clearAllBody_turns _ _ s
  · exact .refl s

end Sys2Proof.Machine
end

section
/-! PROOFS. Generations over one step: the host link, the part's own events, and the statement. -/

namespace Sys2Proof.Machine

/-! ### The host link -/

theorem State.endRead_slots (s : State) (p : Port) : (s.endRead p).slots = s.slots := by
  unfold State.endRead
  split <;> rfl

theorem State.clockRead_slots (s : State) (p : Port) (n : Nat) : (s.clockRead p n).slots = s.slots := by
  unfold State.clockRead
  split <;> rfl

theorem State.readResponse_slots (s : State) (p : Port) (n : Nat) : (s.readResponse p n).slots = s.slots := by
  rw [State.readResponse_eq, State.modPort_slots]

theorem State.badFrame_slots (s : State) (p : Port) (q : Seq) : (s.badFrame p q).slots = s.slots := by
  unfold State.badFrame
  split <;> rfl

theorem State.abandon_slots (s : State) (p : Port) (cut : Option (List Byte)) : (s.abandon p cut).slots = s.slots := by
  unfold State.abandon
  split <;> rfl

theorem State.Turns.of_slots_eq {s t : State} (h : t.slots = s.slots) : s.Turns t := (State.Turns.refl s).rest h

/-- The response to a taken command leaves the slots to the command (R192). -/
theorem State.Turns.finishTaken {s : State} {k : Taken} (h : s.Turns k.1) (p : Port) : s.Turns (finishTaken p k) := by
  unfold Machine.finishTaken
  split
  · exact h.rest rfl
  · exact h

/-- A good frame moves slots through the command it carries alone (R192, R193). -/
theorem State.goodFrame_turns (s : State) (p : Port) (q : Seq) {body : State → Taken}
    (hb : ∀ u : State, u.Turns (body u).1) : s.Turns (s.goodFrame p q body) := by
  unfold State.goodFrame
  repeat' split
  · exact .of_slots_eq rfl
  · exact .of_slots_eq rfl
  · exact .of_slots_eq rfl
  · exact ((hb _).finishTaken p).of_slots rfl

/-- The end of a transaction moves slots through its effect alone (R189). -/
theorem State.endTransaction_turns (s : State) (p : Port) {effect : State → State}
    (he : ∀ u : State, u.Turns (effect u)) : s.Turns (s.endTransaction p effect) :=
  State.endTransaction_elim (.of_slots_eq rfl) (.refl s) ((he _).of_slots (s.endRead_slots p))

theorem hostFrame_turns (p : Port) (q : Seq) (ps : List Byte) {body : State → Taken}
    (hb : ∀ u : State, u.Turns (body u).1) (s : State) : s.Turns (hostFrame p q ps body s) := by
  refine s.endTransaction_turns p fun u => ?_
  dsimp only
  split
  · exact (State.goodFrame_turns _ p q hb).of_slots rfl
  · exact .of_slots_eq (State.badFrame_slots _ p q)

/-- The rows that name a transaction by its bytes (R189, R190). -/
theorem State.transaction_turns (s : State) (p : Port) (bytes : List Byte) : s.Turns (s.transaction p bytes) := by
  refine s.endTransaction_turns p fun u => ?_
  split
  · exact .refl u
  · split
    · exact .of_slots_eq (u.readResponse_slots p _)
    · dsimp only
      split
      · exact (State.goodFrame_turns _ p _ (commandBody_turns p _)).of_slots rfl
      · exact .of_slots_eq (State.badFrame_slots _ p _)

/-- A LEAVE frame's command is LEAVE's in either mode (log entry 8). -/
theorem commandBody_leave (p : Port) (q : Seq) (ps : List Byte) : commandBody p ⟨q, 0x03, ps⟩ = leaveBody p ps := by
  funext s
  by_cases hm : ps.head? = some (1#8) <;> simp [commandBody, commandOf, hm]

/-- A host command's row is the link's handling of the command that its code names (R190, R197). -/
theorem exec_of_frame {c : Instr} {p : Port} {f : Frame} (h : c.frame = some (p, f)) (s : State) :
    exec c s = .next (hostFrame p f.seq f.params (commandBody p f) s) := by
  cases c
  case leaveDrain | leaveNow =>
    cases h
    rw [commandBody_leave]
    rfl
  all_goals cases h
  all_goals rfl

/-! ### The part's own events -/

theorem State.openRead_slots (s : State) (p : Port) : (s.openRead p).slots = s.slots := by
  unfold State.openRead
  dsimp only
  split
  · rfl
  · exact State.endRead_slots _ p

/-- The row answers a state that has turned from `s`. -/
def State.TurnsBy (s : State) (n : Next) : Prop := ∃ t, n = .next t ∧ s.Turns t

theorem State.Turns.next {s t : State} (h : s.Turns t) : s.TurnsBy (.next t) := ⟨t, rfl, h⟩

/-- A row that does not take place (log entry 7). -/
theorem State.TurnsBy.refl (s : State) : s.TurnsBy (.next s) := (State.Turns.refl s).next

theorem execResponseRead_turns (p : Port) (part : ReadPart) (s : State) : s.TurnsBy (execResponseRead p part s) := by
  apply State.Turns.next
  split
  · exact s.endTransaction_turns p fun u => .of_slots_eq (u.readResponse_slots p _)
  · exact .of_slots_eq (s.openRead_slots p)
  · split
    · exact .refl s
    · exact .of_slots_eq (s.clockRead_slots p _)
  · exact s.endTransaction_turns p fun u => .refl u

/-- Step 2 of R141 discards marks, and slots left without any turn. -/
theorem State.clearNotices_turns (s : State) (p : Port) : s.Turns (s.clearNotices p) := by
  unfold State.clearNotices
  dsimp only
  generalize allSlots = l, allChains = m
  exact State.Steady.closeSlots_turns (foldl_keeps (fun _ e ht => ht.discardChainMark p e) m
    (foldl_keeps (fun _ i ht => ht.discardSlotMarks p i) l ((State.Steady.refl s).modPort p _)))

theorem State.portReset_turns (s : State) (p : Port) : s.Turns (s.portReset p) := by
  have h0 := State.Steady.refl s
  unfold State.portReset
  split
  · exact .of_slots_eq rfl
  · split
    · exact .refl s
    · exact (s.clearNotices_turns p).rest (State.modPort_slots _ _ _)
    · exact (h0.beginDeparture _ _ _ _).turns
    · exact (h0.beginDeparture _ _ _ _).turns

theorem execPrstNAssert_turns (a : PrstAssertion) (s : State) : s.TurnsBy (execPrstNAssert a s) := by
  apply State.Turns.next
  split
  · exact .refl s
  · unfold State.assertPrst
    dsimp only
    split
    · exact .of_slots_eq (s.abandon_slots _ _)
    · exact (State.portReset_turns _ _).of_slots (s.abandon_slots a.port a.cut)

theorem execOfferWindowExpiry_turns (i : SlotId) (s : State) : s.TurnsBy (execOfferWindowExpiry i s) := by
  have h0 := State.Steady.refl s
  unfold execOfferWindowExpiry
  split
  · exact .refl s
  · split
    · exact (h0.quarantine i).close_turns.next
    · split
      · exact (h0.expireOffer i _).turns.next
      · exact .refl s

theorem execLeaseExpiry_turns (i : SlotId) (s : State) : s.TurnsBy (execLeaseExpiry i s) := by
  have h0 := State.Steady.refl s
  unfold execLeaseExpiry
  split
  · exact .refl s
  · split
    · exact (h0.quarantine i).close_turns.next
    · split
      · exact (h0.expireLease i _).close_turns.next
      · exact .refl s

theorem execAgePromotion_turns (i : SlotId) (s : State) : s.TurnsBy (execAgePromotion i s) := by
  have h0 := State.Steady.refl s
  unfold execAgePromotion
  split
  · exact .refl s
  · split
    · exact (h0.quarantine i).close_turns.next
    · exact (h0.promote i).turns.next

theorem execOffer_turns (s : State) : s.TurnsBy (execOffer s) := by
  unfold execOffer
  split
  · exact .refl s
  · exact (((State.Steady.refl s).dispatch _ _).closeIf_turns _).next

theorem execScanVisit_turns (p : Port) (s : State) : s.TurnsBy (execScanVisit p s) := by
  unfold execScanVisit
  split
  · exact .refl s
  · split
    · exact ((State.Steady.refl s).visit p _).close_turns.next
    · exact .refl s

/-! ### The steps of a departure (R154) -/

theorem State.stepWithdraw_turns (s : State) (p : Port) (d : Departure) : s.Turns (s.stepWithdraw p d) :=
  State.Steady.close_turns
    ((((State.Steady.refl s).withdrawOffers p false).modPort p _).modPort p _)

theorem State.stepReclaim_turns (s : State) (p : Port) (d : Departure) : s.Turns (s.stepReclaim p d) := by
  have hl : s.Steady ((s.port p).workingSet.foldl (reclaimJob p) (s, d.counts)).1 :=
    foldl_keeps (P := fun a : State × DepCounts => s.Steady a.1) (fun _ i ha => ha.reclaimJob p i) _
      (State.Steady.refl s)
  exact State.Steady.close_turns (hl.modPort p _)

theorem State.stepOrphans_turns (s : State) (p : Port) (d : Departure) : s.Turns (s.stepOrphans p d) :=
  State.Steady.close_turns (((State.Steady.refl s).orphanHandling p d.orphan d.counts).modPort p _)

theorem State.stepNotices_turns (s : State) (p : Port) (d : Departure) : s.Turns (s.stepNotices p d) := by
  have h1 : s.Turns ((s.clearNotices p).advance p .search d.counts) :=
    (s.clearNotices_turns p).rest (State.modPort_slots _ _ _)
  unfold State.stepNotices
  dsimp only
  split
  · exact h1.rest (State.enqueue_slots _ _ _)
  · exact h1

theorem State.stepSearch_turns (s : State) (p : Port) (d : Departure) : s.Turns (s.stepSearch p d) := by
  have h1 : s.Steady (s.abandonScan p) := by
    unfold State.abandonScan
    apply State.Steady.modPort
    split
    · exact (State.Steady.refl s).answerInFlight p _
    · exact .refl s
  unfold State.stepSearch State.endDeparture
  dsimp only
  split
  · exact (h1.rest rfl).turns
  · exact (h1.rest rfl).turns

theorem execDepartureOfferWithdrawal_turns (p : Port) (s : State) :
    s.TurnsBy (execDepartureOfferWithdrawal p s) := by
  unfold execDepartureOfferWithdrawal
  split
  · exact (s.stepWithdraw_turns p _).next
  · exact .refl s

theorem execDepartureReclaim_turns (p : Port) (s : State) : s.TurnsBy (execDepartureReclaim p s) := by
  unfold execDepartureReclaim
  split
  · exact (s.stepReclaim_turns p _).next
  · exact .refl s

theorem execOrphanHandling_turns (p : Port) (s : State) : s.TurnsBy (execOrphanHandling p s) := by
  unfold execOrphanHandling
  split
  · exact (s.stepOrphans_turns p _).next
  · exact .refl s

theorem execDepartureWatchRelease_turns (p : Port) (s : State) : s.TurnsBy (execDepartureWatchRelease p s) := by
  have h1 (d : Departure) : s.Steady (s.stepWatches p d) := ((State.Steady.refl s).freeWatches p).modPort p _
  unfold execDepartureWatchRelease
  split
  · exact (h1 _).turns.next
  · exact .refl s

theorem execDepartureNoticeClear_turns (p : Port) (s : State) : s.TurnsBy (execDepartureNoticeClear p s) := by
  unfold execDepartureNoticeClear
  split
  · exact (s.stepNotices_turns p _).next
  · exact .refl s

theorem execDepartureScanAbandon_turns (p : Port) (s : State) : s.TurnsBy (execDepartureScanAbandon p s) := by
  unfold execDepartureScanAbandon
  split
  · exact (s.stepSearch_turns p _).next
  · exact .refl s

/-! ### One step -/

/-- Every row but RESET_N_ASSERT turns slots and does no more to their generations. -/
theorem exec_turns {c : Instr} (hc : c ≠ .resetNAssert) (s : State) : s.TurnsBy (exec c s) := by
  cases hf : c.frame with
  | some pf =>
    rw [exec_of_frame hf]
    exact (hostFrame_turns pf.1 _ _ (commandBody_turns pf.1 pf.2) s).next
  | none =>
    cases c with
    | commandFrameBad p bytes => exact (s.transaction_turns p bytes).next
    | retransmission p bytes => exact (s.transaction_turns p bytes).next
    | overrun p bytes => exact (s.transaction_turns p bytes).next
    | badCommand p bytes => exact (s.transaction_turns p bytes).next
    | goodFrameOnDownPort p bytes => exact (s.transaction_turns p bytes).next
    | responseRead p part => exact execResponseRead_turns p part s
    | resetNAssert => exact absurd rfl hc
    | resetNRelease => apply State.Turns.next; split <;> exact .of_slots_eq rfl
    | prstNAssert a => exact execPrstNAssert_turns a s
    | prstNDeassert p => apply State.Turns.next; split <;> exact .of_slots_eq rfl
    | tick => apply State.Turns.next; split; exacts [.refl s, s.tick_steady.turns]
    | offerWindowExpiry i => exact execOfferWindowExpiry_turns i s
    | leaseExpiry i => exact execLeaseExpiry_turns i s
    | agePromotion i => exact execAgePromotion_turns i s
    | offer => exact execOffer_turns s
    | scanVisit p => exact execScanVisit_turns p s
    | departureOfferWithdrawal p => exact execDepartureOfferWithdrawal_turns p s
    | departureReclaim p => exact execDepartureReclaim_turns p s
    | orphanHandling p => exact execOrphanHandling_turns p s
    | departureWatchRelease p => exact execDepartureWatchRelease_turns p s
    | departureNoticeClear p => exact execDepartureNoticeClear_turns p s
    | departureScanAbandon p => exact execDepartureScanAbandon_turns p s
    | _ => cases hf

/-- A REFCLK period is a tick at most (R177). -/
theorem State.refclk_turns (s : State) : s.Turns s.refclk := by
  unfold State.refclk
  repeat' split
  · exact .refl s
  · exact s.tick_steady.turns
  · exact .of_slots_eq rfl

theorem step_turns {s : State} (h : s.pending.head? ≠ some .resetNAssert) : s.TurnsBy (step s) := by
  unfold step
  split
  · exact s.refclk_turns.next
  next c rest hp =>
    obtain ⟨t, ht, hu⟩ := exec_turns (c := c) (fun hc => h (by rw [hp, hc]; rfl)) { s with pending := rest }
    exact ⟨t, ht, hu.of_slots rfl⟩

/-- Settles O60: a step is steady but for one close or CLEAR_ALL, where slots turn; power-on clears every slot. -/
theorem generationsChangeAtFreeAlone : Obligations.GenerationsChangeAtFreeAlone := by
  unfold Obligations.GenerationsChangeAtFreeAlone
  refine ⟨fun s t i hp hst => ?_, fun s t i ht => ?_⟩
  · obtain ⟨u, hu, hturns⟩ := step_turns hp
    obtain rfl := Host.Outcome.next.inj (hu.symm.trans hst)
    obtain ⟨hgen, hfree⟩ | ⟨hfree, hgen⟩ := hturns i
    · exact ⟨fun hs hu => absurd (hfree hu) hs, fun _ => hgen⟩
    · exact ⟨fun _ _ => hgen, fun hu => absurd hfree hu⟩
  · obtain rfl := Host.Outcome.next.inj ht
    simp [State.slot, State.powerOn, State.reset, Slot.empty]

end Sys2Proof.Machine
end

section
/-! PROOFS. The Job Store's own command: PURGE (R17), as the release of R11 and the free list's step of R9. -/

namespace Sys2Proof.Machine

/-! ### Release and the free list -/

/-- The free list's step at the close changes slots and the free list alone (R9, R12). -/
theorem State.closeSlots_rest (s : State) :
    s.closeSlots = { s with slots := s.closeSlots.slots, freeList := s.closeSlots.freeList } := by
  unfold State.closeSlots
  generalize allSlots = l
  refine foldl_keeps (P := fun t : State => t = { s with slots := t.slots, freeList := t.freeList })
    (fun t i ht => ?_) l rfl
  unfold closeSlot
  split
  · rw [ht]; rfl
  · exact ht

/-- A quarantined slot's release leaves all but the slots: its count has ended (R11, R15). -/
theorem State.release_quarantined {s : State} {i : SlotId} (h : (s.slot i).state = .quarantined) :
    s.release i = s.modSlot i fun sl =>
      { sl with state := .retiring, checkOk := true, promoDue := 0, job := Job.cleared } := by
  rw [State.release, if_pos h]

/-- A release followed by the free list's step: the slot turns when it has no mark, and is RETIRING with them
otherwise (R9, R11). -/
theorem State.release_closeSlots_slot (s : State) (i : SlotId) :
    (s.release i).closeSlots.slot i = if (s.slot i).marked then
      { s.slot i with state := .retiring, checkOk := true, promoDue := 0, job := Job.cleared }
    else Slot.empty ((s.slot i).gen + 1) := by
  have hm : ({ s.slot i with state := .retiring, checkOk := true, promoDue := 0, job := Job.cleared } : Slot).marked
      = (s.slot i).marked := rfl
  rw [State.closeSlots_slot, State.release_slot, if_pos rfl, hm]
  cases (s.slot i).marked <;> simp

/-- No handle names a FREE or RETIRING slot (R3). -/
theorem State.handleOk_eq_false {s : State} {h : Handle}
    (hs : (s.slot h.slot).gen ≠ h.gen ∨ (s.slot h.slot).state = .free ∨ (s.slot h.slot).state = .retiring) :
    s.handleOk h = false := by
  unfold State.handleOk
  obtain hg | hf | hr := hs
  · simp [hg]
  · simp [hf]
  · simp [hr]

/-- What is FREE after the free list's step (R9, R12). -/
theorem State.closeSlots_free_iff (s : State) (j : SlotId) :
    (s.closeSlots.slot j).state = .free ↔
      (s.slot j).state = .free ∨ (s.slot j).state = .retiring ∧ (s.slot j).marked = false := by
  rw [State.closeSlots_slot]
  split
  next h => exact ⟨fun _ => .inr h, fun _ => rfl⟩
  next h => exact ⟨.inl, fun hf => hf.resolve_right h⟩

/-- The slots that the free list's step adds after a release are those that are FREE after it and were not before
the release (R9). -/
theorem State.release_closeSlots_freeList {s : State} {i : SlotId} (hi : (s.slot i).state ≠ .free) :
    (s.release i).closeSlots.freeList = (s.release i).freeList ++ allSlots.filter fun j =>
      ((s.release i).closeSlots.slot j).state == .free && (s.slot j).state != .free := by
  have hq : ∀ j ∈ allSlots, (((s.release i).slot j).state == .retiring && !((s.release i).slot j).marked)
      = (((s.release i).closeSlots.slot j).state == .free && (s.slot j).state != .free) := fun j _ => by
    have hret : ((s.release i).slot j).state = .retiring → (s.slot j).state ≠ .free := by
      rw [State.release_slot]
      split
      next e => subst e; exact fun _ => hi
      next => exact fun hr => by rw [hr]; exact nofun
    have hold : ((s.release i).slot j).state = .free → (s.slot j).state = .free := by
      rw [State.release_slot]
      split
      · exact nofun
      · exact id
    rw [Bool.eq_iff_iff]
    simp only [Bool.and_eq_true, beq_iff_eq, bne_iff_ne, Bool.not_eq_true', State.closeSlots_free_iff]
    constructor
    · rintro ⟨hr, hm⟩
      exact ⟨.inr ⟨hr, hm⟩, hret hr⟩
    · rintro ⟨hf | hr, hne⟩
      · exact absurd (hold hf) hne
      · exact hr
  rw [State.closeSlots_freeList, List.filter_congr hq]

/-! ### PURGE -/

/-- A PURGE of a QUARANTINED slot by the manager (R17). -/
theorem purgeBody_of {s : State} {p : Port} {i : SlotId} (ha : s.admits p inSession = true)
    (hm : s.isManager p = true) (hq : (s.slot i).state = .quarantined) :
    purgeBody p (num1 i.val) s = accepted
      (handleBytes ((s.release i).closeSlots.handle i) ++ [((s.release i).closeSlots.slot i).state.code])
      (s.release i).closeSlots := by
  have hp : parseSlot (num1 i.val) = some i := congrArg some (slotOf_ofNat i)
  rw [purgeBody, managerCommand_of _ ha hm hp, if_neg (by simp [hq])]

/-- PURGE's refusals: without the claim, and of a slot that is not QUARANTINED (R17, R147). -/
theorem purgeBody_notManager {s : State} {p : Port} {ps : List Byte} (ha : s.admits p inSession = true)
    (hm : s.isManager p = false) : purgeBody p ps s = refuse .notManager s := by
  simp [purgeBody, managerCommand, ha, hm]

theorem purgeBody_notQuarantined {s : State} {p : Port} {i : SlotId} (ha : s.admits p inSession = true)
    (hm : s.isManager p = true) (hq : (s.slot i).state ≠ .quarantined) :
    purgeBody p (num1 i.val) s = refuse .jobState s := by
  have hp : parseSlot (num1 i.val) = some i := congrArg some (slotOf_ofNat i)
  rw [purgeBody, managerCommand_of _ ha hm hp, if_pos hq]

/-- Settles O31: a PURGE is the release of R11 followed by the free list's step of R9. -/
theorem purgeReleasesAQuarantinedSlot : Obligations.PurgeReleasesAQuarantinedSlot := by
  unfold Obligations.PurgeReleasesAQuarantinedSlot
  intro s p q i htakes hadmits
  dsimp only
  have hexec : exec (.purge p q (num1 i.val)) s =
      .next (finishTaken p (purgeBody p (num1 i.val) (s.received p q (num1 i.val)))) :=
    congrArg _ (hostFrame_takes _ htakes)
  generalize hu : s.received p q (num1 i.val) = u at hexec ⊢
  have hslot : ∀ j, u.slot j = s.slot j := fun j => by rw [← hu, State.received_slot]
  have ha : u.admits p inSession = true := by rw [← hu, State.received_admits]; exact hadmits
  have hmgr : u.isManager p = true ↔ s.manager = some p := by
    rw [← hu, State.received_isManager, State.isManager, beq_iff_eq]
  refine ⟨fun hm => ?_, fun hm hq => ?_, fun hm hq => ?_⟩
  · rw [hexec, purgeBody_notManager ha (Bool.eq_false_iff.mpr (mt hmgr.mp hm)), finishTaken_refuse]
  · rw [hexec, purgeBody_notQuarantined ha (hmgr.mpr hm) (by rwa [hslot]), finishTaken_refuse]
  · have hqu : (u.slot i).state = .quarantined := by rwa [hslot]
    have hti := u.release_closeSlots_slot i
    rw [hslot] at hti
    refine ⟨(u.release i).closeSlots, ?_, hti, ?_, ?_, fun j hj hr => ?_, ?_⟩
    · rw [hexec, purgeBody_of ha (hmgr.mpr hm) hqu, finishTaken_accepted]
    · apply State.handleOk_eq_false
      show ((u.release i).closeSlots.slot i).gen ≠ _ ∨ _
      rw [State.handle, hti]
      split
      · exact .inr (.inr rfl)
      · exact .inr (.inl rfl)
    · have hfl : (u.release i).freeList = s.freeList := by
        rw [State.release_quarantined hqu, State.modSlot_freeList, ← hu, State.received_freeList]
      rw [State.release_closeSlots_freeList (by rw [hqu]; exact nofun), hfl]
      simp only [hslot]
    · rw [State.closeSlots_slot, State.release_slot, if_neg hj, hslot, if_neg fun h => hr h.1]
    · have hrest := (u.release i).closeSlots_rest
      rw [State.release_quarantined hqu] at hrest ⊢
      exact hrest

end Sys2Proof.Machine
end

section
/-! PROOFS. The steps that every command on a job shares: the handle test (R3), the test of its record (R13, R14), the
quarantine check (R16) and the holder test (R75, R76). -/

namespace Sys2Proof.Machine

@[simp] theorem State.received_roleFits (s : State) (p x : Port) (q : Seq) (ps : List Byte) (c : Instr) :
    (s.received p q ps).roleFits x c = s.roleFits x c := by simp [State.roleFits]

/-- A taken host command's event is the command's own part and its response (R192). -/
theorem exec_of_takes {c : Instr} {p : Port} {f : Frame} {s : State} (hf : c.frame = some (p, f))
    (ht : s.takes p f.seq f.params) :
    exec c s = .next (finishTaken p (commandBody p f (s.received p f.seq f.params))) := by
  rw [exec_of_frame hf, hostFrame_takes _ ht]

/-! ### What the shared steps answer -/

theorem onJob_stale {h : Handle} {s : State} (k : Taken) (h1 : s.handleOk h = false) :
    onJob h s k = refuse .stale s := by simp [onJob, h1]

theorem onJob_failing {h : Handle} {s : State} (k : Taken) (h1 : s.handleOk h = true)
    (h2 : s.testFails h.slot = true) : onJob h s k = refuse .jobState (s.quarantine h.slot).close := by
  simp [onJob, h1, h2]

theorem onJob_quarantined {h : Handle} {s : State} (k : Taken) (h1 : (s.slot h.slot).gen = h.gen)
    (h2 : (s.slot h.slot).state = .quarantined) : onJob h s k = refuse .jobState s := by
  simp [onJob, State.handleOk, State.testFails, SlotState.tested, SlotState.live, h1, h2]

/-- A refusal by the command's own steps is the command's answer, where the shared steps pass. -/
theorem onJob_refuse {h : Handle} {s : State} (st : Status) (h1 : (s.slot h.slot).gen = h.gen)
    (h2 : (s.slot h.slot).state.tested = true) (h3 : s.testFails h.slot = false) :
    onJob h s (refuse st s) = refuse st s := by
  refine onJob_of _ ?_ h3 fun hq => by simp [hq, SlotState.tested, SlotState.live] at h2
  rw [State.handleOk, h1]
  cases hs : (s.slot h.slot).state <;> simp [hs, SlotState.tested, SlotState.live] at h2 ⊢

/-! ### The commands on a job reach the shared steps -/

section
variable {α : Type} {p : Port} {params : Option α} {handle : α → Handle} {s : State} {a : α} {k : α → Taken}

theorem heldCommand_onJob (ha : s.admits p inSession = true) (hr : (s.port p).roles.consumer = true)
    (hp : params = some a) : ∃ k', heldCommand p params handle s k = onJob (handle a) s k' := by
  simp only [heldCommand, ha, hr, hp, Bool.not_true]
  exact ⟨_, rfl⟩

theorem heldCommand_holderTest (ha : s.admits p inSession = true) (hr : (s.port p).roles.consumer = true)
    (hp : params = some a) {st : Status} (hst : s.holderTest (handle a).slot p = some st) :
    heldCommand p params handle s k = onJob (handle a) s (refuse st s) := by
  simp [heldCommand, ha, hr, hp, hst]

theorem offerCommand_onJob {ps : List Byte} {k : Handle → Taken} {h : Handle} (ha : s.admits p inSession = true)
    (hr : (s.port p).roles.consumer = true) (hp : parseHandle ps = some h) :
    ∃ k', offerCommand p ps s k = onJob h s k' := by
  simp only [offerCommand, ha, hr, hp, Bool.not_true]
  exact ⟨_, rfl⟩

end

theorem cancelBody_onJob {p : Port} {ps : List Byte} {s : State} {h : Handle} (ha : s.admits p inSession = true)
    (hr : ((s.port p).roles.producer || s.isManager p) = true) (hp : parseHandle ps = some h) :
    ∃ k, cancelBody p ps s = onJob h s k := by
  simp only [cancelBody, ha, hr, hp, Bool.not_true]
  exact ⟨_, rfl⟩

theorem reapBody_onJob {p : Port} {ps : List Byte} {s : State} {h : Handle} (ha : s.admits p inSession = true)
    (hr : (s.port p).roles.producer = true) (hp : parseHandle ps = some h) :
    ∃ k, reapBody p ps s = onJob h s k := by
  simp only [reapBody, ha, hr, hp, Bool.not_true]
  exact ⟨_, rfl⟩

theorem queryBody_stale {p : Port} {ps : List Byte} {s : State} {h : Handle} (ha : s.admits p inSession = true)
    (hp : parseHandle ps = some h) (hs : s.handleOk h = false) : queryBody p ps s = refuse .stale s := by
  simp [queryBody, ha, hp, hs]

/-- The role step of a command that needs the consumer role (R147). -/
theorem State.consumer_of_roleFits {s : State} {p : Port} {c : Instr} (h : s.roleFits p c = true)
    (hc : c.isConsumerRow = true) : (s.port p).roles.consumer = true := by
  simp only [State.roleFits, hc, Bool.and_eq_true, Bool.not_true, Bool.false_or] at h
  exact h.1.1.1.2

section
variable {c : Instr} {p : Port} {f : Frame} {s : State} {h : Handle}

/-- Every command that names a job, but QUERY, reaches the shared steps once its role step is passed. -/
theorem commandBody_onJob (hf : c.frame = some (p, f)) (ha : s.admits p c.admittedIn = true)
    (hr : s.roleFits p c = true) (hh : c.handleOf = some h) (hq : c.isQuery = false) :
    ∃ k, commandBody p f s = onJob h s k := by
  cases c
  case cancel p q ps =>
    cases hf
    exact cancelBody_onJob ha (by simpa [State.roleFits, Instr.isManagerRow, Instr.isConsumerRow,
      Instr.isProducerRow, Instr.isCancelRow] using hr) hh
  case reap p q ps =>
    cases hf
    exact reapBody_onJob ha (by simpa [State.roleFits, Instr.isManagerRow, Instr.isConsumerRow,
      Instr.isProducerRow, Instr.isCancelRow] using hr) hh
  case accept p q ps =>
    cases hf
    exact offerCommand_onJob ha (State.consumer_of_roleFits hr rfl) hh
  case decline p q ps =>
    cases hf
    exact offerCommand_onJob ha (State.consumer_of_roleFits hr rfl) hh
  case renew p q ps =>
    cases hf
    obtain ⟨a, hp, rfl⟩ := Option.map_eq_some_iff.mp hh
    exact heldCommand_onJob ha (State.consumer_of_roleFits hr rfl) hp
  case returnJob p q ps =>
    cases hf
    obtain ⟨a, hp, rfl⟩ := Option.map_eq_some_iff.mp hh
    exact heldCommand_onJob ha (State.consumer_of_roleFits hr rfl) hp
  case complete p q ps =>
    cases hf
    obtain ⟨a, hp, rfl⟩ := Option.map_eq_some_iff.mp hh
    exact heldCommand_onJob ha (State.consumer_of_roleFits hr rfl) hp
  case query => cases hq
  all_goals cases hh

/-- A handle that names no job is refused STALE, by QUERY as well (R3). -/
theorem commandBody_stale (hf : c.frame = some (p, f)) (ha : s.admits p c.admittedIn = true)
    (hr : s.roleFits p c = true) (hh : c.handleOf = some h) (hs : s.handleOk h = false) :
    commandBody p f s = refuse .stale s := by
  cases hq : c.isQuery with
  | false =>
    obtain ⟨k, hk⟩ := commandBody_onJob hf ha hr hh hq
    rw [hk, onJob_stale k hs]
  | true =>
    cases c
    case query p q ps =>
      cases hf
      exact queryBody_stale ha hh hs
    all_goals cases hq

/-- RENEW, RETURN and COMPLETE answer what the holder test refuses with, once the shared steps pass (R75, R76). -/
theorem commandBody_holderTest (hf : c.frame = some (p, f)) (ha : s.admits p c.admittedIn = true)
    (hr : s.roleFits p c = true) (hh : c.handleOf = some h) (hc : c.isHolderRow = true) {st : Status}
    (hst : s.holderTest h.slot p = some st) : commandBody p f s = onJob h s (refuse st s) := by
  cases c
  case renew p q ps =>
    cases hf
    obtain ⟨a, hp, rfl⟩ := Option.map_eq_some_iff.mp hh
    exact heldCommand_holderTest ha (State.consumer_of_roleFits hr rfl) hp hst
  case returnJob p q ps =>
    cases hf
    obtain ⟨a, hp, rfl⟩ := Option.map_eq_some_iff.mp hh
    exact heldCommand_holderTest ha (State.consumer_of_roleFits hr rfl) hp hst
  case complete p q ps =>
    cases hf
    obtain ⟨a, hp, rfl⟩ := Option.map_eq_some_iff.mp hh
    exact heldCommand_holderTest ha (State.consumer_of_roleFits hr rfl) hp hst
  all_goals cases hc

end

/-! ### The statement -/

/-- Settles O38: each clause is one of the shared steps, met by the body of whichever command names the job. -/
theorem handleRecordAndHolderTests : Obligations.HandleRecordAndHolderTests := by
  unfold Obligations.HandleRecordAndHolderTests
  intro s c p f h hf ht hadmits hroles hh
  dsimp only
  rw [exec_of_takes hf ht]
  have hslot : ∀ j, (s.received p f.seq f.params).slot j = s.slot j := s.received_slot p _ _
  have htest : ∀ j, (s.received p f.seq f.params).testFails j = s.testFails j := s.received_testFails p _ _
  have hok : (s.received p f.seq f.params).handleOk h = s.handleOk h := s.received_handleOk p _ _ h
  have hjob : ∀ j, (s.received p f.seq f.params).job j = s.job j := s.received_job p _ _
  rw [← State.received_admits s p p f.seq f.params] at hadmits
  rw [← State.received_roleFits s p p f.seq f.params] at hroles
  generalize s.received p f.seq f.params = u at *
  refine ⟨fun hs => ?_, fun h1 h2 hq => ?_, fun h1 h2 hq => ?_, fun hc hg h2 => ?_⟩
  · rw [commandBody_stale hf hadmits hroles hh (by rw [hok]; exact State.handleOk_eq_false hs), finishTaken_refuse]
  · obtain ⟨k, hk⟩ := commandBody_onJob hf hadmits hroles hh hq
    rw [hk, onJob_failing k (by rwa [hok]) (by rwa [htest]), finishTaken_refuse]
  · obtain ⟨k, hk⟩ := commandBody_onJob hf hadmits hroles hh hq
    rw [hk, onJob_quarantined k (by rwa [hslot]) (by rwa [hslot]), finishTaken_refuse]
  · have refused {st : Status} (hs : (s.slot h.slot).state.tested = true)
        (hst : u.holderTest h.slot p = some st) :
        Host.Outcome.next (finishTaken p (commandBody p f u)) = (.next (u.answer p ⟨st, []⟩) : Next) := by
      rw [commandBody_holderTest hf hadmits hroles hh hc hst,
        onJob_refuse st (by rwa [hslot]) (by rwa [hslot]) (by rwa [htest]), finishTaken_refuse]
    refine ⟨fun hr hs => ?_, fun hr hs hx => ?_, fun hr hs hx => ?_, fun hr hs => ?_, fun hs hx => ?_, fun hs => ?_⟩
    · obtain hs | hs := hs
      · exact refused (by rw [hs]; rfl) (by simp [State.holderTest, hslot, hjob, hs, hr])
      · exact refused (by rw [hs]; rfl) (by simp [State.holderTest, hslot, hjob, hs, hr])
    · exact refused (by rw [hs]; rfl) (by simp [State.holderTest, hslot, hjob, hs, hr, hx])
    · exact refused (by rw [hs]; rfl) (by simp [State.holderTest, hslot, hjob, hs, hr, hx])
    · exact refused (by rw [hs]; rfl) (by simp [State.holderTest, hslot, hjob, hs, hr])
    · exact refused (by rw [hs]; rfl) (by simp [State.holderTest, hslot, hjob, hs, hx])
    · exact refused (by rw [hs]; rfl) (by simp [State.holderTest, hslot, hs])

end Sys2Proof.Machine
end

section
/-! PROOFS. Quarantine (R13, R15): what entering QUARANTINED does to each kind of record, and who is told. -/

namespace Sys2Proof.Machine

/-! ### Leaving a collection and a chain list -/

/-- The loss of the consumer takes an ACTIVE job out of its holder's working set (R74). -/
theorem State.leaveConsumer_port (s : State) (i : SlotId) (x : Port) :
    (s.leaveConsumer i).port x = { s.port x with
      workingSet := if (s.slot i).state = .active ∧ (s.job i).consumer = some x then
        (s.port x).workingSet.erase i else (s.port x).workingSet } := by
  unfold State.leaveConsumer
  dsimp only
  rw [State.writeJob, State.writeSlot_port]
  split
  next p hst hp =>
    rw [State.modPort_port]
    by_cases e : x = p
    · subst e; simp [hst, hp]
    · have e' : p ≠ x := fun h => e h.symm
      simp [e, e', hp]
  next hno =>
    rw [if_neg fun h => hno x h.1 h.2]

theorem State.leaveConsumer_rest (s : State) (i : SlotId) :
    s.leaveConsumer i = { s with ports := (s.leaveConsumer i).ports, slots := (s.leaveConsumer i).slots } := by
  unfold State.leaveConsumer
  dsimp only
  split <;> rfl

/-- A job that leaves its collection leaves the working set of its holder, if it has one. -/
theorem State.leaveCollection_port (s : State) (i : SlotId) (x : Port) :
    (s.leaveCollection i).port x = { s.port x with
      workingSet := if (s.slot i).state = .active ∧ (s.job i).consumer = some x then
        (s.port x).workingSet.erase i else (s.port x).workingSet } := by
  unfold State.leaveCollection
  split
  next h => simp [h, State.leaveQueue, State.modQueue_port]
  next h => exact s.leaveConsumer_port i x
  next h => exact s.leaveConsumer_port i x
  next hno => rw [if_neg fun h => hno h.1]

/-- A QUEUED job leaves its class queue, and no other queue changes (R27). -/
theorem State.leaveCollection_classQueue (s : State) (i : SlotId) (c : ClassId) :
    (s.leaveCollection i).classQueue c =
      if (s.slot i).state = .queued ∧ c = (s.job i).cls then (s.classQueue c).erase i else s.classQueue c := by
  have hc : (s.leaveConsumer i).classQueue c = s.classQueue c := by rw [State.leaveConsumer_rest]; rfl
  unfold State.leaveCollection
  split
  next h =>
    rw [State.leaveQueue, State.modQueue_classQueue]
    by_cases e : c = (s.job i).cls <;> simp [h, e]
  next h => rw [if_neg (by simp [h]), hc]
  next h => rw [if_neg (by simp [h]), hc]
  next h _ _ => rw [if_neg fun hq => h hq.1]

theorem State.leaveCollection_rest (s : State) (i : SlotId) :
    s.leaveCollection i = { s with
      ports := (s.leaveCollection i).ports, slots := (s.leaveCollection i).slots
      classQueues := (s.leaveCollection i).classQueues } := by
  unfold State.leaveCollection
  split
  · rfl
  · rw [State.leaveConsumer_rest]
  · rw [State.leaveConsumer_rest]
  · rfl

theorem State.inChain_congr {s t : State} {i : SlotId} (h1 : (t.job i).chain = (s.job i).chain)
    (h2 : ∀ e, t.chain e = s.chain e) : t.inChain i = s.inChain i := by
  simp only [State.inChain, h1, h2]

/-- The job leaves its chain list, and no other entry changes (R33). -/
theorem State.leaveChain_chain (s : State) (i : SlotId) (e : ChainId) :
    (s.leaveChain i).chain e =
      if s.inChain i = some e then { s.chain e with list := (s.chain e).list.erase i } else s.chain e := by
  unfold State.leaveChain
  split
  next e' h =>
    rw [State.modChain_chain, h]
    by_cases he : e = e'
    · subst he; simp
    · have he' : e' ≠ e := fun h => he h.symm
      simp [he, he']
  next h => simp [h]

theorem State.leaveChain_rest (s : State) (i : SlotId) :
    s.leaveChain i = { s with chains := (s.leaveChain i).chains } := by
  unfold State.leaveChain
  split <;> rfl

/-- The end of a job's count changes its producer's count alone (R10). -/
theorem State.endCount_port (s : State) (i : SlotId) (x : Port) :
    (s.endCount i).port x = { s.port x with
      quotaCount := if (s.job i).producer = some x then (s.port x).quotaCount - 1 else (s.port x).quotaCount } := by
  unfold State.endCount
  split
  next p h =>
    rw [State.modPort_port, h]
    by_cases e : x = p
    · subst e; simp
    · have e' : p ≠ x := fun h => e h.symm
      simp [e, e']
  next h => simp [h]

theorem State.endCount_rest (s : State) (i : SlotId) : s.endCount i = { s with ports := (s.endCount i).ports } := by
  unfold State.endCount
  split <;> rfl

/-! ### Entering QUARANTINED -/

/-- The job's record in quarantine: its fields and its holder (R15, R16). -/
def State.lostJob (s : State) (i : SlotId) : Job :=
  { s.job i with
    consumer := none, deadline := none, declined := Vector.replicate 4 false, queuedSince := none
    cancelRequested := false, reclaimedFrom := none, finish := none, userCode := none, result := none
    lostHolder := s.holder i }

theorem State.enterQuarantine_slot (s : State) (i j : SlotId) :
    (s.enterQuarantine i).slot j = if j = i then
      { s.slot i with state := .quarantined, checkOk := true, promoDue := 0, job := s.lostJob i }
    else s.slot j := by
  obtain ⟨hgen, -, hprod, hcons, c, d, hjob⟩ := s.leaveCollection_slot_fields i
  unfold State.enterQuarantine
  rw [State.modSlot_slot, State.endCount_slot, State.endCount_slot, State.leaveChain_slot, State.leaveChain_slot]
  split
  · simp only [hgen, hprod, hcons, hjob, State.lostJob]
  next h => rw [State.leaveCollection_slot_of_ne s i j h]

/-- What leaving the collection leaves of the job's chain and producer. -/
theorem State.leaveCollection_job (s : State) (i : SlotId) :
    ((s.leaveCollection i).job i).chain = (s.job i).chain
      ∧ ((s.leaveCollection i).job i).producer = (s.job i).producer := by
  obtain ⟨-, -, -, -, c, d, hjob⟩ := s.leaveCollection_slot_fields i
  rw [State.job, hjob]
  exact ⟨rfl, rfl⟩

theorem State.leaveCollection_chain (s : State) (i : SlotId) (e : ChainId) :
    (s.leaveCollection i).chain e = s.chain e := by rw [State.leaveCollection_rest]; rfl

theorem State.enterQuarantine_chain (s : State) (i : SlotId) (e : ChainId) :
    (s.enterQuarantine i).chain e =
      if s.inChain i = some e then { s.chain e with list := (s.chain e).list.erase i } else s.chain e := by
  have hin : (s.leaveCollection i).inChain i = s.inChain i :=
    State.inChain_congr (s.leaveCollection_job i).1 (s.leaveCollection_chain i)
  unfold State.enterQuarantine
  rw [State.modSlot_chain, State.endCount_rest]
  show ((s.leaveCollection i).leaveChain i).chain e = _
  rw [State.leaveChain_chain, hin, State.leaveCollection_chain]

theorem State.enterQuarantine_port (s : State) (i : SlotId) (x : Port) :
    (s.enterQuarantine i).port x = { s.port x with
      workingSet := if (s.slot i).state = .active ∧ (s.job i).consumer = some x then
        (s.port x).workingSet.erase i else (s.port x).workingSet
      quotaCount := if (s.job i).producer = some x then (s.port x).quotaCount - 1
        else (s.port x).quotaCount } := by
  have hport : ((s.leaveCollection i).leaveChain i).port x = (s.leaveCollection i).port x := by
    rw [State.leaveChain_rest]; rfl
  have hjob : ((s.leaveCollection i).leaveChain i).job i = (s.leaveCollection i).job i :=
    congrArg Slot.job (State.leaveChain_slot _ i i)
  unfold State.enterQuarantine
  rw [State.modSlot_port, State.endCount_port, hport, hjob, (s.leaveCollection_job i).2, State.leaveCollection_port]

theorem State.enterQuarantine_rest (s : State) (i : SlotId) :
    s.enterQuarantine i = { s with
      ports := (s.enterQuarantine i).ports, slots := (s.enterQuarantine i).slots
      classQueues := (s.enterQuarantine i).classQueues, chains := (s.enterQuarantine i).chains } := by
  unfold State.enterQuarantine
  rw [State.endCount_rest, State.leaveChain_rest, State.leaveCollection_rest]
  rfl

theorem State.enterQuarantine_classQueue (s : State) (i : SlotId) (c : ClassId) :
    (s.enterQuarantine i).classQueue c =
      if (s.slot i).state = .queued ∧ c = (s.job i).cls then (s.classQueue c).erase i else s.classQueue c := by
  unfold State.enterQuarantine
  rw [State.modSlot_classQueue, State.endCount_rest, State.leaveChain_rest]
  exact s.leaveCollection_classQueue i c

/-- A quarantine owes nothing by itself. -/
theorem State.owed_enterQuarantine (s : State) (i : SlotId) (x : Port) :
    (s.enterQuarantine i).owed x = s.owed x := by
  refine State.owed_congr ?_ (fun j => ?_) (fun e => ?_) fun k => ?_
  · rw [State.enterQuarantine_port]
  · rw [State.enterQuarantine_slot]
    split
    next e => subst e; exact ⟨rfl, rfl⟩
    next => exact ⟨rfl, rfl⟩
  · rw [State.enterQuarantine_chain]
    split <;> exact ⟨rfl, rfl⟩
  · rw [State.enterQuarantine_rest]
    exact ⟨rfl, rfl⟩

theorem State.room_enterQuarantine (s : State) (i : SlotId) (x : Port) :
    (s.enterQuarantine i).room x = s.room x := by
  rw [State.room, State.room, State.owed_enterQuarantine, State.queueRoom, State.enterQuarantine_port, State.queueRoom]

end Sys2Proof.Machine
end

section
/-! PROOFS. Quarantine, concluded: JOB_LOST for the producer and the holder (R15 step 3), and the statement. -/

namespace Sys2Proof.Machine

/-! ### A notice and the port records -/

/-- A notice changes its port's queue alone, where owing it leaves the port records as they are (R131). -/
theorem State.notify_port {s : State} {p : Port} {e : Event} {owe : State → State}
    (ho : ∀ x, (owe s).port x = s.port x) (x : Port) :
    ((s.notify p e owe).port x = { s.port x with queue := ((s.notify p e owe).port x).queue })
      ∧ (x ≠ p → (s.notify p e owe).port x = s.port x) := by
  refine State.notify_elim (P := fun t => t.port x = { s.port x with queue := (t.port x).queue }
    ∧ (x ≠ p → t.port x = s.port x)) ⟨rfl, fun _ => rfl⟩ ?_ ?_
  · rw [State.enqueue_port]
    split
    next e => subst e; exact ⟨rfl, fun h => absurd rfl h⟩
    next => exact ⟨rfl, fun _ => rfl⟩
  · rw [ho x]
    exact ⟨rfl, fun _ => rfl⟩

theorem State.notifyProducer_port (s : State) (i : SlotId) (p : Port) (n : ProducerNotice) (x : Port) :
    ((s.notifyProducer i p n).port x = { s.port x with queue := ((s.notifyProducer i p n).port x).queue })
      ∧ (x ≠ p → (s.notifyProducer i p n).port x = s.port x) := State.notify_port (fun _ => rfl) x

theorem State.notifyConsumer_port (s : State) (i : SlotId) (p : Port) (n : ConsumerNotice) (x : Port) :
    ((s.notifyConsumer i p n).port x = { s.port x with queue := ((s.notifyConsumer i p n).port x).queue })
      ∧ (x ≠ p → (s.notifyConsumer i p n).port x = s.port x) := State.notify_port (fun _ => rfl) x

/-- A write of the record leaves the check code in agreement (R13). -/
theorem State.notifyProducer_checkOk {s : State} {i j : SlotId} {p : Port} {n : ProducerNotice}
    (h : (s.slot j).checkOk = true) : ((s.notifyProducer i p n).slot j).checkOk = true := by
  refine State.notify_elim (P := fun t => (t.slot j).checkOk = true) h h ?_
  rw [State.setProducerMark, State.writeSlot_slot]
  split
  · rfl
  · exact h

theorem State.notifyConsumer_checkOk {s : State} {i j : SlotId} {p : Port} {n : ConsumerNotice}
    (h : (s.slot j).checkOk = true) : ((s.notifyConsumer i p n).slot j).checkOk = true := by
  refine State.notify_elim (P := fun t => (t.slot j).checkOk = true) h h ?_
  rw [State.setConsumerMark, State.writeSlot_slot]
  split
  · rfl
  · exact h

/-- A notice for one port's producer role owes nothing to another port. -/
theorem State.owed_notifyProducer_of_ne {s : State} {i : SlotId} {p x : Port} {n : ProducerNotice} (hx : x ≠ p)
    (h : s.owed x = false) : (s.notifyProducer i p n).owed x = false := by
  refine State.notify_elim (P := fun t => t.owed x = false) h (by rw [State.owed_enqueue, h]) ?_
  rw [← Bool.not_eq_true, State.owed_iff] at h ⊢
  contrapose! h
  obtain h | ⟨j, hj⟩ | h := h
  · exact .inl h
  · refine .inr (.inl ⟨j, ?_⟩)
    rw [State.setProducerMark, State.writeSlot_slot] at hj
    split at hj
    next e =>
      subst e
      exact hj.imp (fun hp => absurd (eq_of_beq hp).symm hx) id
    next => exact hj
  · exact .inr (.inr h)

/-! ### JOB_LOST -/

/-- What JOB_LOST keeps is what the two notices about the job keep. -/
theorem State.passLost_elim {P : State → Prop} {s : State} {i : SlotId} {o : Option Port} (h : P s)
    (hp : ∀ t r, P t → P (t.notifyProducer i r .jobLost))
    (hc : ∀ t x, P t → P (t.notifyConsumer i x .jobLost)) : P (s.passLost i o) := by
  have h1 : P (s.tellProducer i .jobLost) := by
    unfold State.tellProducer
    split
    · exact hp _ _ h
    · exact h
  unfold State.passLost State.tellConsumer
  split
  · exact hc _ _ h1
  · exact h1

section
variable (s : State) (i : SlotId) (o : Option Port)

theorem State.passLost_rest :
    s.passLost i o = { s with ports := (s.passLost i o).ports, slots := (s.passLost i o).slots } :=
  State.passLost_elim (P := fun t => t = { s with ports := t.ports, slots := t.slots }) rfl
    (fun t r ht => by rw [State.notifyProducer_rest, ht]) (fun t x ht => by rw [State.notifyConsumer_rest, ht])

theorem State.passLost_slot_of_ne {j : SlotId} (h : j ≠ i) : (s.passLost i o).slot j = s.slot j :=
  State.passLost_elim (P := fun t => t.slot j = s.slot j) rfl
    (fun t r ht => (t.notifyProducer_slot_of_ne i j r _ h).trans ht)
    (fun t x ht => (t.notifyConsumer_slot_of_ne i j x _ h).trans ht)

/-- The job's own fields stay as they are. -/
theorem State.passLost_job (j : SlotId) :
    (s.passLost i o).job j = s.job j ∧ ((s.passLost i o).slot j).state = (s.slot j).state
      ∧ ((s.passLost i o).slot j).gen = (s.slot j).gen := by
  refine State.passLost_elim (P := fun t => t.job j = s.job j ∧ (t.slot j).state = (s.slot j).state
    ∧ (t.slot j).gen = (s.slot j).gen) ⟨rfl, rfl, rfl⟩ (fun t r ht => ?_) (fun t x ht => ?_)
  · obtain ⟨hj, hst, hg⟩ := t.notifyProducer_job i j r .jobLost
    exact ⟨hj.trans ht.1, hst.trans ht.2.1, hg.trans ht.2.2⟩
  · obtain ⟨hj, hst, hg⟩ := t.notifyConsumer_job i j x .jobLost
    exact ⟨hj.trans ht.1, hst.trans ht.2.1, hg.trans ht.2.2⟩

theorem State.passLost_checkOk {j : SlotId} (h : (s.slot j).checkOk = true) :
    ((s.passLost i o).slot j).checkOk = true :=
  State.passLost_elim (P := fun t => (t.slot j).checkOk = true) h (fun _ _ => State.notifyProducer_checkOk)
    (fun _ _ => State.notifyConsumer_checkOk)

/-- Of a port's record JOB_LOST changes the queue alone. -/
theorem State.passLost_port (x : Port) :
    (s.passLost i o).port x = { s.port x with queue := ((s.passLost i o).port x).queue } :=
  State.passLost_elim (P := fun t => t.port x = { s.port x with queue := (t.port x).queue }) rfl
    (fun t r ht => by rw [(t.notifyProducer_port i r _ x).1, ht]) (fun t y ht => by
      rw [(t.notifyConsumer_port i y _ x).1, ht])

variable {s i o}

/-- The producer with room receives JOB_LOST, where it is not the holder too (R15 step 3). -/
theorem State.passLost_queue_producer {r : Port} (hr : (s.job i).producer = some r) (ho : o ≠ some r)
    (h1 : (s.port r).state ≠ .down) (h2 : s.room r = true) :
    ((s.passLost i o).port r).queue = (s.port r).queue ++ [.jobLost (s.handle i)] := by
  have ht : s.tellProducer i .jobLost = s.enqueue r (.jobLost (s.handle i)) := by
    rw [State.tellProducer, hr]
    exact State.notify_room _ _ h1 h2
  rw [State.passLost, ht]
  cases o with
  | none => rw [State.tellConsumer, State.enqueue_port, if_pos rfl]
  | some x =>
    have hx : r ≠ x := fun e => ho (by rw [e])
    rw [State.tellConsumer, (State.notifyConsumer_port _ i x _ r).2 hx, State.enqueue_port, if_pos rfl]

/-- The holder with room receives JOB_LOST, where it is not the producer too (R15 step 3). -/
theorem State.passLost_queue_holder {x : Port} (hx : (s.job i).producer ≠ some x) (h1 : (s.port x).state ≠ .down)
    (h2 : s.room x = true) :
    ((s.passLost i (some x)).port x).queue = (s.port x).queue ++ [.jobLost (s.handle i)] := by
  obtain ⟨hlen, howed⟩ := (s.room_iff x).mp h2
  have hu : (s.tellProducer i .jobLost).port x = s.port x ∧ (s.tellProducer i .jobLost).owed x = false
      ∧ (s.tellProducer i .jobLost).handle i = s.handle i := by
    unfold State.tellProducer
    split
    next r hr =>
      have hxr : x ≠ r := fun e => hx (by rw [hr, e])
      exact ⟨(s.notifyProducer_port i r _ x).2 hxr, State.owed_notifyProducer_of_ne hxr howed,
        congrArg (Handle.mk i) (s.notifyProducer_job i i r _).2.2⟩
    next => exact ⟨rfl, howed, rfl⟩
  rw [State.passLost, State.tellConsumer]
  generalize s.tellProducer i .jobLost = u at hu
  obtain ⟨hport, hnone, hhandle⟩ := hu
  have hroom : u.room x = true := (u.room_iff x).mpr ⟨by rwa [hport], hnone⟩
  rw [State.notifyConsumer, State.notify_room _ _ (by rwa [hport]) hroom, State.enqueue_port, if_pos rfl, hport,
    hhandle]
  rfl

end

/-! ### Quarantine -/

/-- Without a strict chain to break, a quarantine is the entry into QUARANTINED and JOB_LOST (R15). -/
theorem State.quarantine_of_not_strict {s : State} {i : SlotId}
    (h : ∀ e : ChainId, s.inChain i = some e → (s.chain e).strict = false) :
    s.quarantine i = (s.enterQuarantine i).passLost i (s.holder i) := by
  have hb : (s.enterQuarantine i).breakIfStrict (s.inChain i) (s.handle i) = s.enterQuarantine i := by
    unfold State.breakIfStrict
    split
    next e he =>
      rw [State.enterQuarantine_chain, if_pos he, if_neg (by simp [h e he])]
    next => rfl
  rw [State.quarantine, hb]

theorem State.holder_eq (s : State) (i : SlotId) :
    s.holder i = if (s.slot i).state = .offered ∨ (s.slot i).state = .active then (s.job i).consumer else none := by
  unfold State.holder
  split <;> simp_all

/-- The events of a failing record that quarantine it and do nothing more (R13). -/
theorem execLeaseExpiry_failing {s : State} {i : SlotId} (h0 : s.inReset = false) (hd : s.leaseDue i = true)
    (ht : s.testFails i = true) : execLeaseExpiry i s = .next (s.quarantine i).close := by
  simp [execLeaseExpiry, h0, hd, ht]

theorem execOfferWindowExpiry_failing {s : State} {i : SlotId} (h0 : s.inReset = false) (hd : s.offerDue i = true)
    (ht : s.testFails i = true) : execOfferWindowExpiry i s = .next (s.quarantine i).close := by
  simp [execOfferWindowExpiry, h0, hd, ht]

theorem execAgePromotion_failing {s : State} {i : SlotId} (h0 : s.inReset = false)
    (hq : (s.slot i).state = .queued) (hd : 0 < (s.slot i).promoDue) (ht : s.testFails i = true) :
    execAgePromotion i s = .next (s.quarantine i).close := by
  have hd' : ((s.slot i).promoDue == 0) = false := beq_eq_false_iff_ne.mpr (Nat.ne_of_gt hd)
  simp [execAgePromotion, h0, hq, hd', ht]

/-- Settles O42: the entry into QUARANTINED gives the records, and JOB_LOST the queues of the ports told. -/
theorem failingRecordIsQuarantined : Obligations.FailingRecordIsQuarantined := by
  unfold Obligations.FailingRecordIsQuarantined
  intro s i hfails hstrict
  dsimp only
  have hq := State.quarantine_of_not_strict hstrict
  have hv := s.enterQuarantine_slot i i
  rw [if_pos rfl] at hv
  have hhandle : (s.enterQuarantine i).handle i = s.handle i := by rw [State.handle, hv]; rfl
  have hprod : ((s.enterQuarantine i).job i).producer = (s.job i).producer := by rw [State.job, hv]; rfl
  have hdown (x : Port) : ((s.enterQuarantine i).port x).state = (s.port x).state := by
    rw [State.enterQuarantine_port]
  have hqueue (x : Port) : ((s.enterQuarantine i).port x).queue = (s.port x).queue := by
    rw [State.enterQuarantine_port]
  have hrest := (s.enterQuarantine i).passLost_rest i (s.holder i)
  obtain ⟨hjob, hstate, hgen⟩ := (s.enterQuarantine i).passLost_job i (s.holder i) i
  refine ⟨?_, ?_, ?_, ?_, fun hs => ?_, fun c hc => ?_, fun e => ?_, fun r hr => ⟨?_, fun h1 h2 h3 => ?_⟩,
    fun x hx hne => ⟨fun hs => ?_, fun hs h1 h2 => ?_⟩, fun j hj => ?_, ?_, ?_, ?_, ?_, ?_, ?_⟩
  · rw [hq, hstate, hv]
  · rw [hq, hgen, hv]
  · rw [hq]
    exact State.passLost_checkOk _ _ _ (by rw [hv])
  · rw [hq]
    refine hjob.trans ?_
    rw [State.job, hv, State.lostJob, State.holder_eq]
    rfl
  · rw [hq, hrest]
    exact (s.enterQuarantine_classQueue i _).trans (if_pos ⟨hs, rfl⟩)
  · rw [hq, hrest]
    exact (s.enterQuarantine_classQueue i c).trans (if_neg fun h => hc.elim (fun hs => hs h.1) fun hn => hn h.2)
  · rw [hq, hrest]
    show ((s.enterQuarantine i).chain e).list = _
    rw [State.enterQuarantine_chain]
    split <;> rfl
  · rw [hq, State.passLost_port, State.enterQuarantine_port]
    exact if_pos hr
  · have hho : s.holder i ≠ some r := by
      rw [State.holder_eq]
      split
      next hs =>
        intro hc
        obtain h | h := h3 hc <;> simp [h] at hs
      next => exact nofun
    rw [hq, State.passLost_queue_producer (hprod.trans hr) hho (by rwa [hdown]) (by rwa [State.room_enterQuarantine]),
      hqueue, hhandle]
  · rw [hq, State.passLost_port, State.enterQuarantine_port]
    exact if_pos ⟨hs, hx⟩
  · have hho : s.holder i = some x := by rw [State.holder_eq, if_pos hs]; exact hx
    rw [hq, hho, State.passLost_queue_holder (by rw [hprod]; exact hne) (by rwa [hdown])
      (by rwa [State.room_enterQuarantine]), hqueue, hhandle]
  · rw [hq, State.passLost_slot_of_ne _ _ _ hj, State.enterQuarantine_slot, if_neg hj]
  · rw [hq, hrest, State.enterQuarantine_rest]
  · rw [hq, hrest, State.enterQuarantine_rest]
  · rw [hq, hrest, State.enterQuarantine_rest]
  · exact fun h0 hd => execLeaseExpiry_failing h0 hd hfails
  · exact fun h0 hd => execOfferWindowExpiry_failing h0 hd hfails
  · exact fun h0 hs hd => execAgePromotion_failing h0 hs hd hfails

end Sys2Proof.Machine
end

section
/-! PROOFS. The class queues: the order key (R24) and the place it gives a job that enters, and the promotion that
moves a job to the place of a raised urgency (R29, R30). -/

namespace Sys2Proof.Machine

/-! ### The order key (R24) -/

/-- A job ranks ahead of another by a higher urgency, or at the same urgency by a greater distance. -/
theorem State.ahead_iff (s : State) (i j : SlotId) :
    s.ahead i j = true ↔ (s.job j).urgency < (s.job i).urgency
      ∨ (s.job j).urgency = (s.job i).urgency ∧ s.distance j < s.distance i := by
  simp [State.ahead]

/-- The order of the keys is total, so a job behind one that `i` ranks ahead of is behind `i`. -/
theorem State.not_ahead_of_ahead {s : State} {i j k : SlotId} (hij : s.ahead i j = true)
    (hkj : s.ahead k j = false) : s.ahead k i = false := by
  rw [← Bool.not_eq_true, State.ahead_iff] at *
  omega

/-! ### The place of a job that enters -/

/-- The job enters behind the jobs that it does not rank ahead of, and before the first that it does. -/
theorem insertKey_split (aheadOf : SlotId → Bool) (i : SlotId) (l : List SlotId) :
    ∃ a b : List SlotId, l = a ++ b ∧ insertKey aheadOf i l = a ++ i :: b
      ∧ (∀ j ∈ a, aheadOf j = false) ∧ ∀ j ∈ b.head?, aheadOf j = true := by
  induction l with
  | nil => exact ⟨[], [], rfl, rfl, by simp, by simp⟩
  | cons j js ih =>
    cases hj : aheadOf j with
    | true => exact ⟨[], j :: js, rfl, by simp [insertKey, hj], by simp, by simp [hj]⟩
    | false =>
      obtain ⟨a, b, hl, hins, ha, hb⟩ := ih
      exact ⟨j :: a, b, by rw [hl]; rfl, by simp [insertKey, hj, hins], List.forall_mem_cons.mpr ⟨hj, ha⟩, hb⟩

/-- A queue in the order of its keys stays so when a job stands in it behind the jobs that it does not rank ahead of
and before one that it does. -/
theorem State.inOrder_insert {s : State} {i : SlotId} {a b : List SlotId} (h : s.inOrder (a ++ b))
    (ha : ∀ j ∈ a, s.ahead i j = false) (hb : ∀ j ∈ b.head?, s.ahead i j = true) : s.inOrder (a ++ i :: b) := by
  obtain ⟨hpa, hpb, hab⟩ := List.pairwise_append.mp h
  have hib : ∀ k ∈ b, s.ahead k i = false := by
    cases b with
    | nil => exact nofun
    | cons j js =>
      have hij : s.ahead i j = true := hb j rfl
      have hjj : s.ahead j j = false := by rw [← Bool.not_eq_true, State.ahead_iff]; omega
      intro k hk
      obtain rfl | hk := List.mem_cons.mp hk
      · exact State.not_ahead_of_ahead hij hjj
      · exact State.not_ahead_of_ahead hij ((List.pairwise_cons.mp hpb).1 k hk)
  refine List.pairwise_append.mpr ⟨hpa, List.pairwise_cons.mpr ⟨hib, hpb⟩, fun j hj k hk => ?_⟩
  obtain rfl | hk := List.mem_cons.mp hk
  · exact ha j hj
  · exact hab j hj k hk

/-- Settles O33: the place of the newcomer splits the queue, and the order of the keys is total. -/
theorem insertionKeepsTheKeyOrder : Obligations.InsertionKeepsTheKeyOrder := by
  unfold Obligations.InsertionKeepsTheKeyOrder
  intro s i l
  have hsplit := insertKey_split (s.ahead i) i l
  refine ⟨hsplit, fun h => ?_, fun j => s.ahead_iff i j⟩
  obtain ⟨a, b, hl, hins, ha, hb⟩ := hsplit
  rw [hins]
  exact State.inOrder_insert (hl ▸ h) ha hb

/-! ### AGE_PROMOTION (R29, R30) -/

/-- With no promotion due, none takes place (log entry 7). -/
theorem execAgePromotion_none_due {s : State} {i : SlotId} (hd : (s.slot i).promoDue = 0) :
    execAgePromotion i s = .next s := by
  simp [execAgePromotion, hd]

/-- A due promotion of a QUEUED job with a sound record takes place (R29). -/
theorem execAgePromotion_due {s : State} {i : SlotId} (h0 : s.inReset = false) (hq : (s.slot i).state = .queued)
    (hd : 0 < (s.slot i).promoDue) (hok : (s.slot i).checkOk = true) :
    execAgePromotion i s = .next (s.promote i) := by
  have hd' : ((s.slot i).promoDue == 0) = false := beq_eq_false_iff_ne.mpr (Nat.ne_of_gt hd)
  simp [execAgePromotion, State.testFails, h0, hq, hd', hok]

/-- Below its class's ceiling the job gives up its place, and takes the place of an urgency one higher (R29, R30). -/
theorem State.promote_raises {s : State} {i : SlotId} (hok : (s.slot i).checkOk = true)
    (ha : (s.policyOf (s.job i).cls).ageStep ≠ 0)
    (hc : (s.job i).urgency < (s.policyOf (s.job i).cls).ageCeiling) :
    s.promote i = ((s.modQueue (s.job i).cls (·.erase i)).modSlot i fun sl =>
      { sl with promoDue := sl.promoDue - 1, job := { sl.job with urgency := sl.job.urgency + 1 } }).enterQueue i := by
  have hleave : (s.modSlot i fun sl => { sl with promoDue := sl.promoDue - 1 }).leaveQueue i
      = (s.modQueue (s.job i).cls (·.erase i)).modSlot i fun sl => { sl with promoDue := sl.promoDue - 1 } := by
    rw [State.leaveQueue, State.modSlot_job, if_pos rfl]
    rfl
  unfold State.promote
  dsimp only
  rw [if_pos ⟨ha, hc⟩, hleave, State.writeJob, State.writeSlot, State.modSlot_modSlot]
  refine congrArg (State.enterQueue · i) (State.modSlot_congr _ i ?_)
  rw [State.modQueue_slot, hok]

/-- In a class without an age step, or at its ceiling, the instant passes (R29). -/
theorem State.promote_passes {s : State} {i : SlotId}
    (h : (s.policyOf (s.job i).cls).ageStep = 0 ∨ (s.policyOf (s.job i).cls).ageCeiling ≤ (s.job i).urgency) :
    s.promote i = s.modSlot i fun sl => { sl with promoDue := sl.promoDue - 1 } := by
  unfold State.promote
  exact if_neg fun hr => h.elim hr.1 (Nat.not_le.mpr hr.2)

/-- Settles O32: a due promotion is `State.promote`, which raises the urgency or lets the instant pass. -/
theorem agePromotionRaisesUrgency : Obligations.AgePromotionRaisesUrgency := by
  unfold Obligations.AgePromotionRaisesUrgency
  intro s i h0 hq
  refine ⟨execAgePromotion_none_due, fun hd hok => ?_⟩
  have hexec : exec (.agePromotion i) s = .next (s.promote i) := execAgePromotion_due h0 hq hd hok
  dsimp only
  rw [hexec]
  refine ⟨fun ha hc => ?_, fun h => congrArg _ (State.promote_passes h)⟩
  rw [State.promote_raises hok ha hc, State.enterQueue, State.modSlot_job, if_pos rfl]
  rfl

end Sys2Proof.Machine
end

section
/-! PROOFS. The commands that put jobs into class queues and chains: SUBMIT's resource step (R22, R32), its effects
(R23), and CHAIN_RESET (R40). -/

namespace Sys2Proof.Machine

/-! ### The entry keyed to a port and chain id (R31, R32) -/

/-- The first of the numbers below `n` with a property. -/
theorem find?_finRange_eq_some_iff {n : Nat} {f : Fin n → Bool} {x : Fin n} :
    (List.finRange n).find? f = some x ↔ f x = true ∧ ∀ y < x, f y = false := by
  rw [← Fin.find?_eq_find?_finRange, Fin.find?_eq_some_iff]

/-- Entry `e` is keyed to port `p` and chain id `id` (R31). -/
def State.keyed (s : State) (p : Port) (id : BitVec 8) (e : ChainId) : Prop :=
  (s.chain e).state ≠ .free ∧ (s.chain e).owner = some p ∧ (s.chain e).chainId = id

theorem State.findChain_eq_some {s : State} {p : Port} {id : BitVec 8} {e : ChainId} (h : s.keyed p id e)
    (hfirst : ∀ x : ChainId, x < e → ¬ s.keyed p id x) : s.findChain p id = some e :=
  find?_finRange_eq_some_iff.mpr ⟨by simpa [State.keyed, and_assoc] using h,
    fun x hx => by simpa [State.keyed, and_assoc] using hfirst x hx⟩

theorem State.findChain_eq_none {s : State} {p : Port} {id : BitVec 8} (h : ∀ e : ChainId, ¬ s.keyed p id e) :
    s.findChain p id = none :=
  List.find?_eq_none.mpr fun e _ => by simpa [State.keyed, and_assoc] using h e

theorem State.freeChain_eq_some {s : State} {e : ChainId} (h : (s.chain e).state = .free)
    (hfirst : ∀ x : ChainId, x < e → (s.chain x).state ≠ .free) : s.freeChain = some e :=
  find?_finRange_eq_some_iff.mpr ⟨by simpa using h, fun x hx => by simpa using hfirst x hx⟩

theorem State.freeChain_eq_none {s : State} (h : ∀ e : ChainId, (s.chain e).state ≠ .free) : s.freeChain = none :=
  List.find?_eq_none.mpr fun e _ => by simpa using h e

/-! ### CHAIN_RESET (R40) -/

theorem parseChainId_of_ne {id : Byte} (hid : id ≠ 0) : parseChainId [id] = some id := if_neg hid

section
variable {s : State} {p : Port} {ps : List Byte} {id : Byte} (ha : s.admits p inSession = true)
  (hr : (s.port p).roles.producer = true) (hp : parseChainId ps = some id)
include ha hr hp

/-- The BROKEN entry found is freed, and what it held is reported. -/
theorem chainResetBody_broken {e : ChainId} (hf : s.findChain p id = some e) (hb : (s.chain e).state = .broken) :
    chainResetBody p ps s = accepted (s.chain e).resetData (s.modChain e fun _ => ChainEntry.cleared) := by
  simp [chainResetBody, ha, hr, hp, hf, hb]

theorem chainResetBody_not_broken {e : ChainId} (hf : s.findChain p id = some e)
    (hb : (s.chain e).state ≠ .broken) : chainResetBody p ps s = refuse .jobState s := by
  simp [chainResetBody, ha, hr, hp, hf, hb]

theorem chainResetBody_none (hf : s.findChain p id = none) : chainResetBody p ps s = refuse .jobState s := by
  simp [chainResetBody, ha, hr, hp, hf]

end

/-- Settles O30: the entry CHAIN_RESET acts on is the first keyed to the issuing port and the id. -/
theorem chainResetFreesABrokenEntry : Obligations.ChainResetFreesABrokenEntry := by
  unfold Obligations.ChainResetFreesABrokenEntry
  intro s p q id hid htakes hadmits hroles
  dsimp only
  have hexec : exec (.chainReset p q [id]) s =
      .next (finishTaken p (chainResetBody p [id] (s.received p q [id]))) := congrArg _ (hostFrame_takes _ htakes)
  have ha : (s.received p q [id]).admits p inSession = true := by rw [State.received_admits]; exact hadmits
  have hr : ((s.received p q [id]).port p).roles.producer = true := by rw [State.received_roles]; exact hroles
  have hp := parseChainId_of_ne hid
  refine ⟨fun e he hfirst => ⟨fun h n hb hrec => ?_, fun ho => ?_⟩, fun hnone => ?_⟩
  · have hf : (s.received p q [id]).findChain p id = some e := State.findChain_eq_some he hfirst
    obtain ⟨-, -, rfl⟩ := he
    rw [hexec, chainResetBody_broken ha hr hp hf hb, finishTaken_accepted, State.received_chain,
      ChainEntry.resetData, hrec]
    rfl
  · have hf : (s.received p q [id]).findChain p id = some e := State.findChain_eq_some he hfirst
    have hb : ((s.received p q [id]).chain e).state ≠ .broken := by rw [State.received_chain, ho]; exact nofun
    rw [hexec, chainResetBody_not_broken ha hr hp hf hb, finishTaken_refuse]
  · have hf : (s.received p q [id]).findChain p id = none := State.findChain_eq_none hnone
    rw [hexec, chainResetBody_none ha hr hp hf, finishTaken_refuse]

/-! ### SUBMIT's resource step (R22, R32) -/

/-- The chain checks of a SUBMIT that names a chain already keyed to the port (R22 checks 2 and 3). -/
theorem State.chainTarget_found {s : State} {p : Port} {a : SubmitParams} {e : ChainId} (h0 : a.chainId ≠ 0)
    (hf : s.findChain p a.chainId = some e) :
    s.chainTarget p a = if (s.chain e).state = .broken then .error .chainBroken
      else if (s.chain e).cls ≠ a.cls then .error .chainClass else .ok (.joins e) := by
  simp only [State.chainTarget, if_neg h0, hf]

/-- The chain check of a SUBMIT that names a chain of its own (R22 check 4, R32). -/
theorem State.chainTarget_creates {s : State} {p : Port} {a : SubmitParams} {e : ChainId} (h0 : a.chainId ≠ 0)
    (hf : s.findChain p a.chainId = none) (he : s.freeChain = some e) : s.chainTarget p a = .ok (.creates e) := by
  simp only [State.chainTarget, if_neg h0, hf, he]

theorem State.chainTarget_full {s : State} {p : Port} {a : SubmitParams} (h0 : a.chainId ≠ 0)
    (hf : s.findChain p a.chainId = none) (he : s.freeChain = none) : s.chainTarget p a = .error .chainFull := by
  simp only [State.chainTarget, if_neg h0, hf, he]

section
variable {s : State} {p : Port} {ps : List Byte} {a : SubmitParams} (ha : s.admits p inJoined = true)
  (hr : (s.port p).roles.producer = true) (hp : parseSubmit ps = some a)
include ha hr hp

theorem submitBody_quota (hq : (s.port p).quota ≤ (s.port p).quotaCount) :
    submitBody p ps s = refuse .quota s := by
  simp [submitBody, ha, hr, hp, hq]

variable (hq : (s.port p).quotaCount < (s.port p).quota)
include hq

theorem submitBody_chainError {st : Status} (hc : s.chainTarget p a = .error st) :
    submitBody p ps s = refuse st s := by
  simp [submitBody, ha, hr, hp, hq, hc]

theorem submitBody_storeFull {c : ChainTarget} (hc : s.chainTarget p a = .ok c) (hl : s.freeList = []) :
    submitBody p ps s = refuse .storeFull s := by
  simp [submitBody, ha, hr, hp, hq, hc, hl]

/-- A SUBMIT that passes every check has its effects, with the head of the free list as its slot (R23). -/
theorem submitBody_of {c : ChainTarget} {i : SlotId} {rest : List SlotId} (hc : s.chainTarget p a = .ok c)
    (hl : s.freeList = i :: rest) :
    submitBody p ps s = accepted (handleBytes (s.handle i)) (s.submitJob p a i c) := by
  simp [submitBody, ha, hr, hp, hq, hc, hl]

end

/-- A port's quota and its count against it do not change when a command is taken. -/
theorem State.received_quota (s : State) (p x : Port) (q : Seq) (ps : List Byte) :
    ((s.received p q ps).port x).quota = (s.port x).quota
      ∧ ((s.received p q ps).port x).quotaCount = (s.port x).quotaCount := by
  rw [State.received_port]
  split
  next e => subst e; exact ⟨rfl, rfl⟩
  next => exact ⟨rfl, rfl⟩

@[simp] theorem State.received_chainTarget (s : State) (p x : Port) (q : Seq) (ps : List Byte) (a : SubmitParams) :
    (s.received p q ps).chainTarget x a = s.chainTarget x a := rfl

/-- Settles O27: the checks of the resource step refuse in their order, and `State.chainTarget` names the entry. -/
theorem submitMeetsItsResourceChecks : Obligations.SubmitMeetsItsResourceChecks := by
  unfold Obligations.SubmitMeetsItsResourceChecks
  intro s p q ps a htakes hadmits hroles hp
  dsimp only
  have hexec : exec (.submit p q ps) s = .next (finishTaken p (submitBody p ps (s.received p q ps))) :=
    congrArg _ (hostFrame_takes _ htakes)
  have ha : (s.received p q ps).admits p inJoined = true := by rw [State.received_admits]; exact hadmits
  have hr : ((s.received p q ps).port p).roles.producer = true := by rw [State.received_roles]; exact hroles
  obtain ⟨hquota, hcount⟩ := s.received_quota p p q ps
  refine ⟨fun hq => ?_, fun hq => ?_⟩
  · rw [hexec, submitBody_quota ha hr hp (by rwa [hquota, hcount]), finishTaken_refuse]
  have hq' : ((s.received p q ps).port p).quotaCount < ((s.received p q ps).port p).quota := by
    rwa [hquota, hcount]
  have refused {st : Status} (hc : s.chainTarget p a = .error st) :
      exec (.submit p q ps) s = .next ((s.received p q ps).answer p ⟨st, []⟩) := by
    rw [hexec, submitBody_chainError ha hr hp hq' hc, finishTaken_refuse]
  refine ⟨fun h0 => if_pos h0, fun e h0 he hfirst => ?_, fun h0 hnone => ?_, fun c hc hl => ?_⟩
  · have ht := State.chainTarget_found h0 (State.findChain_eq_some he hfirst)
    refine ⟨fun hb => refused ?_, fun hb hcls => refused ?_, fun hb hcls => ?_⟩
    · rw [ht, if_pos hb]
    · rw [ht, if_neg hb, if_pos hcls]
    · rw [ht, if_neg hb, if_neg (not_not_intro hcls)]
  · have hf : s.findChain p a.chainId = none := State.findChain_eq_none hnone
    exact ⟨fun hfull => refused (State.chainTarget_full h0 hf (State.freeChain_eq_none hfull)),
      fun e he hfirst => State.chainTarget_creates h0 hf (State.freeChain_eq_some he hfirst)⟩
  · rw [hexec, submitBody_storeFull ha hr hp hq' hc hl, finishTaken_refuse]

/-! ### SUBMIT's effects (R23) -/

/-- The Chain Table leaves the job's record to the Job Store. -/
theorem State.joinChain_slots (s : State) (p : Port) (a : SubmitParams) (i : SlotId) (c : ChainTarget) :
    (s.joinChain p a i c).slots = s.slots := by
  cases c <;> rfl

/-- A SUBMIT's effects but for the place in the class queue: the record, the counts and the chain (R23). -/
def State.recordSubmit (s : State) (p : Port) (a : SubmitParams) (i : SlotId) (c : ChainTarget) : State :=
  let u := (s.modSlot i fun sl => { Slot.empty sl.gen with state := .queued, job := s.newJob p a c }).modPort p
    fun r => { r with quotaCount := r.quotaCount + 1 }
  { u with freeList := s.freeList.tail, seqCounter := s.seqCounter + 1 }.joinChain p a i c

/-- The slot of a SUBMIT is a fresh one of its generation with the job submitted. -/
theorem State.recordSubmit_slot (s : State) (p : Port) (a : SubmitParams) (i : SlotId) (c : ChainTarget) :
    (s.recordSubmit p a i c).slot i =
      { Slot.empty (s.slot i).gen with state := .queued, job := s.newJob p a c } :=
  (State.slot_eq_of_slots (State.joinChain_slots _ p a i c) i).trans
    (s.modSlot_slot_self i fun sl => { Slot.empty sl.gen with state := .queued, job := s.newJob p a c })

/-- Last of the effects, the job enters the queue of its class (R23, R24). -/
theorem State.submitJob_eq (s : State) (p : Port) (a : SubmitParams) (i : SlotId) (c : ChainTarget) :
    s.submitJob p a i c =
      (s.recordSubmit p a i c).modQueue a.cls (insertKey ((s.recordSubmit p a i c).ahead i) i) := by
  have hcls : ((s.recordSubmit p a i c).job i).cls = a.cls := by rw [State.job, State.recordSubmit_slot]; rfl
  rw [← hcls]
  rfl

/-- Settles O26: the effects of a SUBMIT, record by record; the entry it joins or creates splits the cases. -/
theorem submitMakesAQueuedJob : Obligations.SubmitMakesAQueuedJob := by
  unfold Obligations.SubmitMakesAQueuedJob
  intro s p q ps a c i rest htakes hadmits hroles hp hq hc hl
  have hexec : exec (.submit p q ps) s = .next (finishTaken p (submitBody p ps (s.received p q ps))) :=
    congrArg _ (hostFrame_takes _ htakes)
  have ha : (s.received p q ps).admits p inJoined = true := by rw [State.received_admits]; exact hadmits
  have hr : ((s.received p q ps).port p).roles.producer = true := by rw [State.received_roles]; exact hroles
  obtain ⟨hquota, hcount⟩ := s.received_quota p p q ps
  rw [hexec, submitBody_of ha hr hp (by rwa [hquota, hcount]) hc hl, finishTaken_accepted, State.submitJob_eq]
  obtain rfl : rest = s.freeList.tail := by rw [hl]; rfl
  cases c <;> rfl

end Sys2Proof.Machine
end

section
/-! PROOFS. CANCEL by the state of the job (R41, R58, R86). -/

namespace Sys2Proof.Machine

/-! ### The end of an offer, and a cancel request -/

/-- The offer's consumer is told, and the job finishes CANCELLED (R58). -/
theorem State.cancelOffered_eq {s : State} {i : SlotId} {c : Port} (hst : (s.slot i).state = .offered)
    (hc : (s.job i).consumer = some c) :
    s.cancelOffered i = (((s.writeJob i fun j => { j with consumer := none, deadline := none }).notifyConsumer i c
      (.offerWithdrawn .cancelled)).finishJob i .cancelled) := by
  simp only [State.cancelOffered, State.leaveConsumer, State.tellConsumer, hst, hc]

/-- The first cancel request of a lease is recorded, and the holder is told (R86). -/
theorem State.requestCancel_first {s : State} {i : SlotId} {c : Port} (hc : (s.job i).consumer = some c)
    (hr : (s.job i).cancelRequested = false) :
    s.requestCancel i =
      (s.writeJob i fun j => { j with cancelRequested := true }).notifyConsumer i c .cancelRequest := by
  simp [State.requestCancel, State.tellConsumer, hc, hr]

/-- A further request does nothing (R86). -/
theorem State.requestCancel_again {s : State} {i : SlotId} (hr : (s.job i).cancelRequested = true) :
    s.requestCancel i = s := if_pos hr

/-! ### What CANCEL answers -/

section
variable {s : State} {p : Port} {ps : List Byte} {h : Handle} (ha : s.admits p inSession = true)
  (hr : ((s.port p).roles.producer || s.isManager p) = true) (hp : parseHandle ps = some h)
  (hok : s.handleOk h = true) (htest : s.testFails h.slot = false)
include ha hr hp hok htest

theorem cancelBody_quarantined (hq : (s.slot h.slot).state = .quarantined) :
    cancelBody p ps s = refuse .jobState s := by
  obtain ⟨k, hk⟩ := cancelBody_onJob ha hr hp
  simp [hk, onJob, hok, htest, hq]

theorem cancelBody_notOwner (hq : (s.slot h.slot).state ≠ .quarantined)
    (hown : ((s.job h.slot).producer == some p || s.isManager p) = false) :
    cancelBody p ps s = refuse .notOwner s := by
  simp [cancelBody, ha, hr, hp, onJob_of _ hok htest hq, hown]

variable (hown : ((s.job h.slot).producer == some p || s.isManager p) = true)
include hown

theorem cancelBody_queued (hst : (s.slot h.slot).state = .queued) :
    cancelBody p ps s =
      accepted [Config.outcomeCode .finished] (s.finishJob h.slot .cancelled).close := by
  simp [cancelBody, ha, hr, hp, onJob_of _ hok htest (by simp [hst]), hown, hst]

theorem cancelBody_offered (hst : (s.slot h.slot).state = .offered) :
    cancelBody p ps s = accepted [Config.outcomeCode .finished] (s.cancelOffered h.slot).close := by
  simp [cancelBody, ha, hr, hp, onJob_of _ hok htest (by simp [hst]), hown, hst]

theorem cancelBody_active (hst : (s.slot h.slot).state = .active) :
    cancelBody p ps s = accepted [Config.outcomeCode .requested] (s.requestCancel h.slot) := by
  simp [cancelBody, ha, hr, hp, onJob_of _ hok htest (by simp [hst]), hown, hst]

theorem cancelBody_done (hst : (s.slot h.slot).state = .done) : cancelBody p ps s = refuse .jobState s := by
  simp [cancelBody, ha, hr, hp, onJob_of _ hok htest (by simp [hst]), hown, hst]

end

/-- Settles O28: past the handle and owner steps, CANCEL's own steps split by the state of the job. -/
theorem cancelActsByTheJobState : Obligations.CancelActsByTheJobState := by
  unfold Obligations.CancelActsByTheJobState
  intro s p q h htakes hadmits hroles hok htest
  dsimp only
  have hexec : exec (.cancel p q (handleBytes h)) s =
      .next (finishTaken p (cancelBody p (handleBytes h) (s.received p q (handleBytes h)))) :=
    congrArg _ (hostFrame_takes _ htakes)
  have hslot := s.received_slot p q (handleBytes h) h.slot
  have hjob := s.received_job p q (handleBytes h) h.slot
  have hmgr := s.received_isManager p p q (handleBytes h)
  have hmgr_iff : s.isManager p = true ↔ s.manager = some p := beq_iff_eq
  have hr : (((s.received p q (handleBytes h)).port p).roles.producer
      || (s.received p q (handleBytes h)).isManager p) = true := by
    rw [State.received_roles, hmgr, Bool.or_eq_true, hmgr_iff]
    exact hroles
  rw [← State.received_admits s p p q (handleBytes h)] at hadmits
  rw [← State.received_handleOk s p q (handleBytes h)] at hok
  rw [← State.received_testFails s p q (handleBytes h)] at htest
  have hp := parseHandle_handleBytes h
  generalize s.received p q (handleBytes h) = u at *
  refine ⟨fun hq h1 h2 => ?_, fun hown => ⟨fun hst => ?_, fun c hst hc => ?_, fun c hst hc hreq => ?_,
    fun hst hreq => ?_, fun hst => ?_⟩⟩
  · have hnot : ((u.job h.slot).producer == some p || u.isManager p) = false := by
      rw [hjob, hmgr, Bool.or_eq_false_iff]
      exact ⟨beq_eq_false_iff_ne.mpr h1, Bool.eq_false_iff.mpr (mt hmgr_iff.mp h2)⟩
    rw [hexec, cancelBody_notOwner hadmits hr hp hok htest (by rwa [hslot]) hnot, finishTaken_refuse]
  all_goals
    have hown' : ((u.job h.slot).producer == some p || u.isManager p) = true := by
      rw [hjob, hmgr, Bool.or_eq_true, beq_iff_eq, hmgr_iff]
      exact hown
    rw [← hslot] at hst
  · rw [hexec, cancelBody_queued hadmits hr hp hok htest hown' hst, finishTaken_accepted]
  · rw [hexec, cancelBody_offered hadmits hr hp hok htest hown' hst, finishTaken_accepted,
      State.cancelOffered_eq hst (by rwa [hjob])]
  · rw [hexec, cancelBody_active hadmits hr hp hok htest hown' hst, finishTaken_accepted,
      State.requestCancel_first (by rwa [hjob]) (by rwa [hjob])]
  · rw [hexec, cancelBody_active hadmits hr hp hok htest hown' hst, finishTaken_accepted,
      State.requestCancel_again (by rwa [hjob])]
  · obtain hd | hq := hst
    · rw [hexec, cancelBody_done hadmits hr hp hok htest hown' hd, finishTaken_refuse]
    · rw [hexec, cancelBody_quarantined hadmits hr hp hok htest hq, finishTaken_refuse]

end Sys2Proof.Machine
end

section
/-! PROOFS. What each part of a finish does to the slots and the chain entries: the end of a hold (R38), the leaving of
the collections (R95) and the record of the finish (R97, R98). -/

namespace Sys2Proof.Machine

/-! ### The end of a hold (R38) -/

/-- What the end of a hold keeps is what its three parts keep. -/
theorem State.endHold_elim {P : State → Prop} {s : State} {i : SlotId} (h : P s) (hl : P (s.leaveConsumer i))
    (hc : ∀ t x n, P t → P (t.notifyConsumer i x n)) : P (s.endHold i) := by
  have tell (n : ConsumerNotice) : P ((s.leaveConsumer i).tellConsumer i (s.job i).consumer n) := by
    unfold State.tellConsumer
    split
    · exact hc _ _ _ hl
    · exact hl
  unfold State.endHold
  split
  · exact tell _
  · exact tell _
  · exact h

theorem State.endHold_rest (s : State) (i : SlotId) :
    s.endHold i = { s with ports := (s.endHold i).ports, slots := (s.endHold i).slots } :=
  State.endHold_elim (P := fun t => t = { s with ports := t.ports, slots := t.slots }) rfl (s.leaveConsumer_rest i)
    fun t x n ht => by rw [State.notifyConsumer_rest, ht]

theorem State.endHold_slot_of_ne (s : State) {i j : SlotId} (h : j ≠ i) : (s.endHold i).slot j = s.slot j :=
  State.endHold_elim (P := fun t => t.slot j = s.slot j) rfl (by rw [State.leaveConsumer_slot, if_neg h])
    fun t x n ht => (t.notifyConsumer_slot_of_ne i j x n h).trans ht

/-- The job keeps its chain and its report choice. -/
theorem State.endHold_job (s : State) (i : SlotId) :
    ((s.endHold i).job i).chain = (s.job i).chain ∧ ((s.endHold i).job i).report = (s.job i).report :=
  State.endHold_elim (P := fun t => (t.job i).chain = (s.job i).chain ∧ (t.job i).report = (s.job i).report)
    ⟨rfl, rfl⟩ (by rw [State.job, State.leaveConsumer_slot, if_pos rfl]; exact ⟨rfl, rfl⟩)
    fun t x n ht => by rw [(t.notifyConsumer_job i i x n).1]; exact ht

/-! ### Leaving the collections (R95) -/

theorem State.leaveLive_slot_of_ne (s : State) {i j : SlotId} (h : j ≠ i) : (s.leaveLive i).slot j = s.slot j := by
  rw [State.leaveLive, State.writeSlot_slot, if_neg h, State.leaveChain_slot, State.leaveCollection_slot_of_ne s i j h]

theorem State.leaveLive_report (s : State) (i : SlotId) : ((s.leaveLive i).job i).report = (s.job i).report := by
  obtain ⟨-, -, -, -, c, d, hjob⟩ := s.leaveCollection_slot_fields i
  rw [State.job, State.leaveLive, State.writeSlot_slot_self, State.leaveChain_slot, hjob]

/-- The job leaves its chain list, and no other entry changes (R33). -/
theorem State.leaveLive_chain (s : State) (i : SlotId) (e : ChainId) :
    (s.leaveLive i).chain e =
      if s.inChain i = some e then { s.chain e with list := (s.chain e).list.erase i } else s.chain e := by
  have hin : (s.leaveCollection i).inChain i = s.inChain i :=
    State.inChain_congr (s.leaveCollection_job i).1 (s.leaveCollection_chain i)
  show ((s.leaveCollection i).leaveChain i).chain e = _
  rw [State.leaveChain_chain, hin, State.leaveCollection_chain]

/-! ### The completion action and the record of the finish (R97, R98) -/

/-- The completion action reaches flag words, watches and port queues alone. -/
theorem State.applyAction_rest (s : State) (i : SlotId) (st : FinishStatus) :
    s.applyAction i st = { s with
      words := (s.applyAction i st).words, ports := (s.applyAction i st).ports
      watches := (s.applyAction i st).watches } := by
  unfold State.applyAction
  split
  · split
    · rw [State.applyCombine_rest]
    · rfl
  · rfl

theorem State.applyAction_slot (s : State) (i j : SlotId) (st : FinishStatus) :
    (s.applyAction i st).slot j = s.slot j := by rw [State.applyAction_rest]; rfl

theorem State.tellProducer_rest (s : State) (i : SlotId) (n : ProducerNotice) :
    s.tellProducer i n = { s with ports := (s.tellProducer i n).ports, slots := (s.tellProducer i n).slots } := by
  unfold State.tellProducer
  split
  · exact s.notifyProducer_rest i _ n
  · rfl

theorem State.tellProducer_slot_of_ne (s : State) {i j : SlotId} (n : ProducerNotice) (h : j ≠ i) :
    (s.tellProducer i n).slot j = s.slot j := by
  unfold State.tellProducer
  split
  · exact s.notifyProducer_slot_of_ne i j _ n h
  · rfl

/-- A notice to the producer leaves the job and its state alone. -/
theorem State.tellProducer_job (s : State) (i : SlotId) (n : ProducerNotice) :
    (s.tellProducer i n).job i = s.job i ∧ ((s.tellProducer i n).slot i).state = (s.slot i).state := by
  unfold State.tellProducer
  split
  next p _ =>
    obtain ⟨hjob, hstate, -⟩ := s.notifyProducer_job i i p n
    exact ⟨hjob, hstate⟩
  next => exact ⟨rfl, rfl⟩

theorem State.tellProducer_checkOk {s : State} {i j : SlotId} (n : ProducerNotice)
    (h : (s.slot j).checkOk = true) : ((s.tellProducer i n).slot j).checkOk = true := by
  unfold State.tellProducer
  split
  · exact State.notifyProducer_checkOk h
  · exact h

theorem State.release_rest (s : State) (i : SlotId) :
    s.release i = { s with ports := (s.release i).ports, slots := (s.release i).slots } := by
  unfold State.release
  split
  · rfl
  · rw [State.endCount_rest]; rfl

theorem State.record_rest (s : State) (i : SlotId) (st : FinishStatus) :
    s.record i st = { s with ports := (s.record i st).ports, slots := (s.record i st).slots } := by
  unfold State.record
  split
  · rw [State.tellProducer_rest]; rfl
  · exact s.release_rest i

theorem State.record_slot_of_ne (s : State) {i j : SlotId} (st : FinishStatus) (h : j ≠ i) :
    (s.record i st).slot j = s.slot j := by
  unfold State.record
  split
  · rw [State.tellProducer_slot_of_ne _ _ h, State.writeSlot_slot, if_neg h]
  · rw [State.release_slot, if_neg h]

/-- The slot of a finished job with report choice `report`: DONE with its finish, or released (R98). -/
structure Slot.Ended (sl : Slot) (report : Bool) (st : FinishStatus) : Prop where
  sound : sl.checkOk = true
  report_eq : sl.job.report = report
  done : report = true → sl.state = .done ∧ sl.job.finish = some st
  released : report = false → sl.state = .retiring

theorem State.record_ended (s : State) (i : SlotId) (st : FinishStatus) :
    ((s.record i st).slot i).Ended (s.job i).report st := by
  unfold State.record
  split
  next hr =>
    generalize hu : (s.writeSlot i fun sl => { sl with state := .done, job := { sl.job with finish := some st } }) = u
    have hslot : u.slot i =
        { s.slot i with state := .done, checkOk := true, job := { s.job i with finish := some st } } := by
      rw [← hu, State.writeSlot_slot_self]; rfl
    obtain ⟨hjob, hstate⟩ := u.tellProducer_job i (.jobDone st (s.job i).userCode)
    replace hjob : ((u.tellProducer i (.jobDone st (s.job i).userCode)).slot i).job =
        { s.job i with finish := some st } := hjob.trans (congrArg Slot.job hslot)
    exact ⟨State.tellProducer_checkOk _ (by rw [hslot]), by rw [hjob],
      fun _ => ⟨by rw [hstate, hslot], by rw [hjob]⟩, fun h => absurd hr (by simp [h])⟩
  next hr =>
    rw [State.release_slot, if_pos rfl]
    exact ⟨rfl, (Bool.eq_false_iff.mpr hr).symm, fun h => absurd h hr, fun _ => rfl⟩

theorem State.finishTail_slot_of_ne (s : State) {i j : SlotId} (st : FinishStatus) (h : j ≠ i) :
    (s.finishTail i st).slot j = s.slot j := by
  rw [State.finishTail, State.record_slot_of_ne _ _ h, State.applyAction_slot]

theorem State.finishTail_ended (s : State) (i : SlotId) (st : FinishStatus) :
    ((s.finishTail i st).slot i).Ended (s.job i).report st := by
  have h := (s.applyAction i st).record_ended i st
  rwa [State.job, State.applyAction_slot] at h

theorem State.finishTail_chain (s : State) (i : SlotId) (st : FinishStatus) (e : ChainId) :
    (s.finishTail i st).chain e = s.chain e := by
  rw [State.finishTail, State.record_rest, State.applyAction_rest]; rfl

end Sys2Proof.Machine
end

section
/-! PROOFS. The break of a strict chain (R36 to R39): what one job's end does, the whole list by induction, and the
notice to the entry's producer. -/

namespace Sys2Proof.Machine

/-! ### One job of the list (R37, R38) -/

/-- A job whose record fails is quarantined, and not counted (R37). -/
theorem breakJob_failing {s : State} {j : SlotId} (n : Nat) (h : s.testFails j = true) :
    breakJob (s, n) j = (s.quarantineInBreak j, n) := if_pos h

/-- A job with a sound record loses its consumer, if it is held, and finishes (R37, R38). -/
theorem breakJob_sound {s : State} {j : SlotId} (n : Nat) (h : s.testFails j = false) :
    breakJob (s, n) j = (((s.endHold j).leaveLive j).finishTail j .chainBroken, n + 1) :=
  if_neg (Bool.eq_false_iff.mp h)

theorem State.endHold_queued {s : State} {j : SlotId} (h : (s.slot j).state = .queued) : s.endHold j = s := by
  simp only [State.endHold, h]

theorem State.endHold_offered {s : State} {j : SlotId} {x : Port} (h : (s.slot j).state = .offered)
    (hx : (s.job j).consumer = some x) :
    s.endHold j = (s.writeJob j fun y => { y with consumer := none, deadline := none }).notifyConsumer j x
      (.offerWithdrawn .cancelled) := by
  simp only [State.endHold, State.leaveConsumer, State.tellConsumer, h, hx]

theorem State.endHold_active {s : State} {j : SlotId} {x : Port} (h : (s.slot j).state = .active)
    (hx : (s.job j).consumer = some x) :
    s.endHold j = ((s.modPort x fun r => { r with workingSet := r.workingSet.erase j }).writeJob j fun y =>
      { y with consumer := none, deadline := none }).notifyConsumer j x (.leaseLost .dropped) := by
  simp only [State.endHold, State.leaveConsumer, State.tellConsumer, h, hx]

/-- The end of one job leaves every other slot alone. -/
theorem breakJob_slot_of_ne (a : State × Nat) {j k : SlotId} (h : k ≠ j) : (breakJob a j).1.slot k = a.1.slot k := by
  unfold breakJob
  split
  · rw [State.quarantineInBreak, State.passLost_slot_of_ne _ _ _ h, State.enterQuarantine_slot, if_neg h]
  · rw [State.finishTail_slot_of_ne _ _ h, State.leaveLive_slot_of_ne _ h, State.endHold_slot_of_ne _ h]

/-- The job leaves its chain list, and no other entry changes. -/
theorem breakJob_chain (a : State × Nat) (j : SlotId) (e : ChainId) :
    (breakJob a j).1.chain e =
      if a.1.inChain j = some e then { a.1.chain e with list := (a.1.chain e).list.erase j } else a.1.chain e := by
  unfold breakJob
  split
  · rw [← State.enterQuarantine_chain, State.quarantineInBreak, State.passLost_rest]
    rfl
  · have hchain (x : ChainId) : (a.1.endHold j).chain x = a.1.chain x := by rw [State.endHold_rest]; rfl
    rw [State.finishTail_chain, State.leaveLive_chain, State.inChain_congr (a.1.endHold_job j).1 hchain, hchain]

/-- A job with a sound record ends with the chain. -/
theorem breakJob_ended {a : State × Nat} {j : SlotId} (h : (a.1.slot j).checkOk = true) :
    ((breakJob a j).1.slot j).Ended (a.1.job j).report .chainBroken ∧ (breakJob a j).2 = a.2 + 1 := by
  have ht : a.1.testFails j = false := by simp [State.testFails, h]
  have hend := ((a.1.endHold j).leaveLive j).finishTail_ended j .chainBroken
  rw [State.leaveLive_report, (a.1.endHold_job j).2] at hend
  exact breakJob_sound a.2 ht ▸ ⟨hend, rfl⟩

theorem breakJob_keeps_sound {a : State × Nat} (h : a.1.sound) (j : SlotId) : (breakJob a j).1.sound := fun k => by
  by_cases hk : k = j
  · subst hk; exact (breakJob_ended (h k)).1.sound
  · rw [breakJob_slot_of_ne a hk]; exact h k

/-! ### The whole list (R37) -/

/-- Over sound records every job of the list ends and is counted, and other slots stay as they are. -/
theorem foldl_breakJob_sound (l : List SlotId) {a : State × Nat} (h : a.1.sound) :
    (l.foldl breakJob a).2 = a.2 + l.length
      ∧ (∀ j ∈ l, ((l.foldl breakJob a).1.slot j).Ended (a.1.job j).report .chainBroken)
      ∧ ∀ j, j ∉ l → (l.foldl breakJob a).1.slot j = a.1.slot j := by
  induction l generalizing a with
  | nil => exact ⟨rfl, nofun, fun _ _ => rfl⟩
  | cons i l ih =>
    obtain ⟨hn, hend, hother⟩ := ih (breakJob_keeps_sound h i)
    obtain ⟨hi, hcount⟩ := breakJob_ended (h i)
    refine ⟨?_, fun j hj => ?_, fun j hj => ?_⟩
    · rw [List.foldl_cons, hn, hcount, List.length_cons]
      omega
    · have hreport : ((breakJob a i).1.job j).report = (a.1.job j).report := by
        by_cases hji : j = i
        · subst hji; exact hi.report_eq
        · rw [State.job, breakJob_slot_of_ne a hji]; rfl
      by_cases hjl : j ∈ l
      · exact hreport ▸ hend j hjl
      · obtain rfl : j = i := (List.mem_cons.mp hj).resolve_right hjl
        rw [List.foldl_cons, hother j hjl]
        exact hi
    · obtain ⟨hji, hjl⟩ := not_or.mp (mt List.mem_cons.mpr hj)
      rw [List.foldl_cons, hother j hjl, breakJob_slot_of_ne a hji]

/-- Of the chain entries the ends of jobs change the lists alone. -/
theorem foldl_breakJob_chain (l : List SlotId) (a : State × Nat) (e : ChainId) :
    (l.foldl breakJob a).1.chain e = { a.1.chain e with list := ((l.foldl breakJob a).1.chain e).list } := by
  refine foldl_keeps (P := fun b : State × Nat => b.1.chain e = { a.1.chain e with list := (b.1.chain e).list })
    (fun b j hb => ?_) l rfl
  rw [breakJob_chain]
  split
  · rw [hb]
  · exact hb

/-- An entry's list without repetitions, of jobs that name the entry, is empty once all of them have ended. -/
theorem foldl_breakJob_list {l : List SlotId} {a : State × Nat} {e : ChainId} (hl : (a.1.chain e).list = l)
    (hnodup : l.Nodup) (hname : ∀ j ∈ l, ∃ id, (a.1.job j).chain = some (id, e)) :
    ((l.foldl breakJob a).1.chain e).list = [] := by
  induction l generalizing a with
  | nil => exact hl
  | cons i l ih =>
    obtain ⟨hi, hnodup⟩ := List.nodup_cons.mp hnodup
    obtain ⟨id, hid⟩ := hname i List.mem_cons_self
    have hin : a.1.inChain i = some e := by simp [State.inChain, hid, hl]
    refine ih (a := breakJob a i) ?_ hnodup fun j hj => ?_
    · rw [breakJob_chain, if_pos hin, hl, List.erase_cons_head]
    · have hji : j ≠ i := fun h => hi (h.subst hj)
      rw [State.job, breakJob_slot_of_ne a hji]
      exact hname j (List.mem_cons_of_mem i hj)

/-! ### The entry and its notice (R37, R39) -/

/-- The state in which the break's notice is passed, and the count it carries: every job of the list has ended, and the
entry is BROKEN with its break record (R37). -/
def State.brokenChain (s : State) (e : ChainId) (failing : Handle) : State × Nat :=
  let r := (s.chain e).list.foldl breakJob (s, 0)
  (r.1.modChain e fun c => { c with state := .broken, breakRec := some (failing, r.2) }, r.2)

theorem State.breakChain_eq (s : State) (e : ChainId) (failing : Handle) :
    s.breakChain e failing =
      (s.brokenChain e failing).1.passChainBroken e failing (s.brokenChain e failing).2 := rfl

/-- The break leaves the entry its key. -/
theorem State.brokenChain_key (s : State) (e : ChainId) (failing : Handle) :
    ((s.brokenChain e failing).1.chain e).owner = (s.chain e).owner
      ∧ ((s.brokenChain e failing).1.chain e).chainId = (s.chain e).chainId := by
  unfold State.brokenChain
  rw [State.modChain_chain_self, foldl_breakJob_chain]
  exact ⟨rfl, rfl⟩

/-- No port changes its state in a break. -/
theorem State.brokenChain_port (s : State) (e : ChainId) (failing : Handle) (p : Port) :
    ((s.brokenChain e failing).1.port p).state = (s.port p).state :=
  (foldl_keeps (P := fun a : State × Nat =>
      (a.1.port p).state = (s.port p).state ∧ (a.1.port p).departure = (s.port p).departure)
    (fun _ j ha => (kept_session p _ _).breakJob j ha) (s.chain e).list (a := (s, 0)) ⟨rfl, rfl⟩).1

/-- What CHAIN_BROKEN keeps: it joins its port's queue, or is owed in the entry, or is not passed (R39). -/
theorem State.passChainBroken_elim {P : State → Prop} {s : State} {e : ChainId} {x : Handle} {n : Nat} (h : P s)
    (hq : ∀ p ev, P (s.enqueue p ev))
    (ho : ∀ m : ChainEntry → Option ChainMark, P (s.modChain e fun c => { c with owed := m c })) :
    P (s.passChainBroken e x n) := by
  unfold State.passChainBroken
  split
  · exact State.notify_elim h (hq _ _) (ho fun c => some ⟨c.chainId, x, n⟩)
  · exact h

/-- The notice leaves the slots as the ends of the jobs have left them. -/
theorem State.breakChain_slot (s : State) (e : ChainId) (x : Handle) (j : SlotId) :
    (s.breakChain e x).slot j = ((s.chain e).list.foldl breakJob (s, 0)).1.slot j :=
  State.passChainBroken_elim (P := fun t => t.slot j = ((s.chain e).list.foldl breakJob (s, 0)).1.slot j) rfl
    (fun _ _ => rfl) fun _ => rfl

/-- The entry after its break: BROKEN, with the failing handle and the count of the jobs finished (R37). -/
theorem State.breakChain_entry (s : State) (e : ChainId) (x : Handle) :
    ((s.breakChain e x).chain e).state = .broken
      ∧ ((s.breakChain e x).chain e).breakRec = some (x, ((s.chain e).list.foldl breakJob (s, 0)).2)
      ∧ ((s.breakChain e x).chain e).list = (((s.chain e).list.foldl breakJob (s, 0)).1.chain e).list := by
  rw [State.breakChain_eq, State.brokenChain]
  generalize (s.chain e).list.foldl breakJob (s, 0) = r
  refine State.passChainBroken_elim (P := fun t => (t.chain e).state = .broken
    ∧ (t.chain e).breakRec = some (x, r.2) ∧ (t.chain e).list = (r.1.chain e).list) ?_ (fun p ev => ?_) fun m => ?_
  · rw [State.modChain_chain_self]
    exact ⟨rfl, rfl, rfl⟩
  · rw [State.enqueue_chain, State.modChain_chain_self]
    exact ⟨rfl, rfl, rfl⟩
  · rw [State.modChain_chain_self, State.modChain_chain_self]
    exact ⟨rfl, rfl, rfl⟩

/-- Who is told of a break, and how (R39, R131). -/
theorem State.breakChain_notice (s : State) (e : ChainId) (x : Handle) :
    let v := (s.brokenChain e x).1
    let n := (s.brokenChain e x).2
    ((s.chain e).owner = none → s.breakChain e x = v)
    ∧ ∀ p : Port, (s.chain e).owner = some p →
      ((s.port p).state = .down → s.breakChain e x = v)
      ∧ ((s.port p).state ≠ .down → v.room p = true →
        s.breakChain e x = v.enqueue p (.chainBroken (s.chain e).chainId x n))
      ∧ ((s.port p).state ≠ .down → v.room p = false →
        s.breakChain e x = v.modChain e fun c => { c with owed := some ⟨(s.chain e).chainId, x, n⟩ }) := by
  obtain ⟨howner, hid⟩ := s.brokenChain_key e x
  have hstate := s.brokenChain_port e x
  rw [State.breakChain_eq]
  dsimp only
  generalize s.brokenChain e x = r at *
  refine ⟨fun ho => ?_, fun p hp => ?_⟩
  · simp only [State.passChainBroken, howner, ho]
  rw [← hstate, ← hid, State.passChainBroken, howner, hp]
  refine ⟨fun hd => if_pos hd, fun hd hr => State.notify_room _ _ hd hr, fun hd hr => ?_⟩
  dsimp only
  rw [State.notify, if_neg hd, if_neg (Bool.eq_false_iff.mp hr), State.modChain, State.modChain]

/-! ### What breaks a strict chain (R36, R96, R15) -/

/-- A finish that breaks does so once the job has left its chain list, and before its own end (R96). -/
theorem State.finishJob_breaks {s : State} {i : SlotId} {e : ChainId} {st : FinishStatus} (hb : st.breaks = true)
    (hin : s.inChain i = some e) (hs : (s.chain e).strict = true) :
    s.finishJob i st = ((s.leaveLive i).breakChain e (s.handle i)).finishTail i st := by
  have hs' : ((s.leaveLive i).chain e).strict = true := by rw [State.leaveLive_chain, if_pos hin]; exact hs
  simp only [State.finishJob, State.breakIfStrict, hb, hin, hs', if_true]

/-- A quarantine breaks once the slot is QUARANTINED, and before JOB_LOST (R15). -/
theorem State.quarantine_breaks {s : State} {i : SlotId} {e : ChainId} (hin : s.inChain i = some e)
    (hs : (s.chain e).strict = true) :
    s.quarantine i = ((s.enterQuarantine i).breakChain e (s.handle i)).passLost i (s.holder i) := by
  have hs' : ((s.enterQuarantine i).chain e).strict = true := by
    rw [State.enterQuarantine_chain, if_pos hin]; exact hs
  simp only [State.quarantine, State.breakIfStrict, hin, hs', if_true]

/-- Settles O44: the list by induction, the entry and its notice, and the end of one job by its state. -/
theorem chainBreakFinishesTheList : Obligations.ChainBreakFinishesTheList := by
  unfold Obligations.ChainBreakFinishesTheList
  refine ⟨fun s e failing hsound => ?_, fun s e failing => s.breakChain_notice e failing, fun s j n => ?_⟩
  · obtain ⟨hcount, hended, hother⟩ := foldl_breakJob_sound (s.chain e).list (a := (s, 0)) hsound
    obtain ⟨hstate, hrec, hlist⟩ := s.breakChain_entry e failing
    have hslot := s.breakChain_slot e failing
    refine ⟨hstate, ?_, fun j hj => ?_, fun j hj => (hslot j).trans (hother j hj), fun hnodup hname => ?_,
      fun i hin hs => ⟨State.finishJob_breaks rfl hin hs, State.finishJob_breaks rfl hin hs⟩,
      fun i u => State.quarantine_breaks⟩
    · rw [hrec, hcount, Nat.zero_add]
    · have hj' := hended j hj
      rw [← hslot] at hj'
      exact ⟨hj'.done, hj'.released⟩
    · rw [hlist]
      exact foldl_breakJob_list rfl hnodup hname
  · refine ⟨breakJob_failing n, fun ht => ⟨fun hq => ?_, fun x hx => ⟨fun ho => ?_, fun ha => ?_⟩⟩⟩
    · rw [breakJob_sound n ht, State.endHold_queued hq]
    · rw [breakJob_sound n ht, State.endHold_offered ho hx]
    · rw [breakJob_sound n ht, State.endHold_active ha hx]

end Sys2Proof.Machine
end

section
/-! PROOFS. The end of an offer whose job goes back into its class queue (R28), and the withdrawal of offers (R59). -/

namespace Sys2Proof.Machine

/-! ### Back into the class queue (R28) -/

/-- An OFFERED job is in no working set: losing its consumer is a write of its record. -/
theorem State.leaveConsumer_offered {s : State} {i : SlotId} (h : (s.slot i).state = .offered) :
    s.leaveConsumer i = s.writeJob i fun j => { j with consumer := none, deadline := none } := by
  simp only [State.leaveConsumer, h]

/-- The record of a job that is QUEUED again (R28). -/
def Slot.requeued (sl : Slot) (now : Word) : Slot :=
  { sl with
    state := .queued, promoDue := 0
    job := { sl.job with consumer := none, deadline := none, queuedSince := some now } }

/-- The job of an offer that ends goes back into its class queue with one write of its record. -/
theorem State.requeue_leaveConsumer {s : State} {i : SlotId} (h : (s.slot i).state = .offered) :
    (s.leaveConsumer i).requeue i = (s.writeSlot i fun sl => sl.requeued s.timeBase).enterQueue i := by
  rw [State.leaveConsumer_offered h, State.requeue, State.writeJob, State.writeSlot, State.writeSlot,
    State.modSlot_modSlot]
  rfl

/-! ### The withdrawal of an offer (R59) -/

/-- A record that agrees with its check code passes its test (R13). -/
theorem State.testFails_of_checkOk {s : State} {i : SlotId} (h : (s.slot i).checkOk = true) :
    s.testFails i = false := by
  simp [State.testFails, h]

/-- A withdrawal of a sound record's offer requeues its job, and tells the port where it is told (R59). -/
theorem withdrawOffer_sound {s : State} {p : Port} {i : SlotId} (told : Bool) (n : Nat)
    (hst : (s.slot i).state = .offered) (hc : (s.job i).consumer = some p) (hok : (s.slot i).checkOk = true) :
    withdrawOffer p told (s, n) i =
      let t := (s.leaveConsumer i).requeue i
      (if told then t.notifyConsumer i p (.offerWithdrawn .leaving) else t, n + 1) := by
  simp [withdrawOffer, hst, hc, State.testFails_of_checkOk hok]

/-- A requeued job's port keeps its room: it loses no queue entry and is owed nothing new. -/
theorem State.room_requeue_leaveConsumer {s : State} {i : SlotId} (h : (s.slot i).state = .offered) (p : Port) :
    ((s.leaveConsumer i).requeue i).room p = s.room p := by
  rw [State.room, State.owed_requeue, State.owed_leaveConsumer, State.leaveConsumer_offered h]
  rfl

/-- Settles O21: the withdrawal is a requeue by one write of the record, and then the notice of a port with room. -/
theorem withdrawnOfferIsRequeued : Obligations.WithdrawnOfferIsRequeued := by
  unfold Obligations.WithdrawnOfferIsRequeued
  intro s p i n hst hc hok
  have hrequeue := State.requeue_leaveConsumer hst
  refine ⟨?_, fun hdown hroom => ?_⟩
  · rw [withdrawOffer_sound false n hst hc hok, hrequeue]
    rfl
  · have hroom' := (State.room_requeue_leaveConsumer hst p).trans hroom
    have hhandle : ((s.leaveConsumer i).requeue i).handle i = s.handle i := by
      rw [State.handle, State.requeue_slot, if_pos rfl, State.leaveConsumer_slot, if_pos rfl]
      rfl
    rw [withdrawOffer_sound true n hst hc hok]
    dsimp only
    rw [if_pos rfl, State.notifyConsumer, State.notify_room _ _ (by rw [hrequeue]; exact hdown) hroom', hhandle,
      hrequeue]
    rfl

end Sys2Proof.Machine
end

section
/-! PROOFS. The end of an offer by its consumer: ACCEPT and DECLINE (R54 to R56, R63). -/

namespace Sys2Proof.Machine

/-! ### The job of an offer declined or missed (R56, R57) -/

/-- The record of a job that is QUEUED again with port `p` declined (R56). -/
def Slot.declinedBy (sl : Slot) (p : Port) (now : Word) : Slot :=
  { sl with
    state := .queued, promoDue := 0
    job := { sl.job with
      consumer := none, deadline := none, queuedSince := some now, declined := sl.job.declined.set p true } }

/-- The job of an offer declined or missed goes back into its class queue with one write of its record. -/
theorem State.declineJob_eq {s : State} {i : SlotId} (p : Port) (h : (s.slot i).state = .offered) :
    s.declineJob i p =
      let t := s.writeSlot i fun sl => sl.declinedBy p s.timeBase
      t.modQueue (s.job i).cls (insertKey (t.ahead i) i) := by
  have hwrite : s.declineJob i p = (s.writeSlot i fun sl => sl.declinedBy p s.timeBase).enterQueue i := by
    rw [State.declineJob, State.leaveConsumer_offered h, State.requeue, State.writeJob, State.writeJob,
      State.writeSlot, State.writeSlot, State.writeSlot, State.writeSlot, State.modSlot_modSlot,
      State.modSlot_modSlot]
    rfl
  have hcls : ((s.writeSlot i fun sl => sl.declinedBy p s.timeBase).job i).cls = (s.job i).cls := by
    rw [State.job, State.writeSlot_slot_self]
    rfl
  rw [hwrite, State.enterQueue, hcls]

/-! ### What ACCEPT and DECLINE answer (R54) -/

section
variable {s : State} {p : Port} {ps : List Byte} {h : Handle} (k : Handle → Taken) (ha : s.admits p inSession = true)
  (hr : (s.port p).roles.consumer = true) (hp : parseHandle ps = some h)
  (hok : s.handleOk h = true) (htest : s.testFails h.slot = false)
include ha hr hp hok htest

/-- An offer to the port reaches the command's own effect. -/
theorem offerCommand_of (hst : (s.slot h.slot).state = .offered) (hc : (s.job h.slot).consumer = some p) :
    offerCommand p ps s k = k h := by
  simp [offerCommand, ha, hr, hp, onJob_of _ hok htest, hst, hc]

/-- A job that is no longer live is refused JOB_STATE. -/
theorem offerCommand_ended (hst : (s.slot h.slot).state = .done ∨ (s.slot h.slot).state = .quarantined) :
    offerCommand p ps s k = refuse .jobState s := by
  obtain hst | hst := hst
  · simp [offerCommand, ha, hr, hp, onJob_of _ hok htest, hst]
  · obtain ⟨k', hk⟩ := offerCommand_onJob (k := k) ha hr hp
    simp [hk, onJob, hok, htest, hst]

/-- A job in no port's hands is refused NOT_OWNER. -/
theorem offerCommand_queued (hst : (s.slot h.slot).state = .queued) :
    offerCommand p ps s k = refuse .notOwner s := by
  simp [offerCommand, ha, hr, hp, onJob_of _ hok htest, hst]

/-- A job in another port's hands is refused NOT_OWNER. -/
theorem offerCommand_other (hst : (s.slot h.slot).state = .offered ∨ (s.slot h.slot).state = .active)
    (hc : (s.job h.slot).consumer ≠ some p) : offerCommand p ps s k = refuse .notOwner s := by
  obtain hst | hst := hst <;> simp [offerCommand, ha, hr, hp, onJob_of _ hok htest, hst, hc]

/-- A job that the port has accepted already is refused JOB_STATE. -/
theorem offerCommand_active (hst : (s.slot h.slot).state = .active) (hc : (s.job h.slot).consumer = some p) :
    offerCommand p ps s k = refuse .jobState s := by
  simp [offerCommand, ha, hr, hp, onJob_of _ hok htest, hst, hc]

end

/-- Settles O34: ACCEPT and DECLINE share `offerCommand`, whose outcome splits by the state and holder of the job. -/
theorem offerIsAcceptedOrDeclined : Obligations.OfferIsAcceptedOrDeclined := by
  unfold Obligations.OfferIsAcceptedOrDeclined
  intro s p q h htakes hadmits hroles hok htest
  dsimp only
  have haccept : exec (.accept p q (handleBytes h)) s =
      .next (finishTaken p (acceptBody p (handleBytes h) (s.received p q (handleBytes h)))) :=
    congrArg _ (hostFrame_takes _ htakes)
  have hdecline : exec (.decline p q (handleBytes h)) s =
      .next (finishTaken p (declineBody p (handleBytes h) (s.received p q (handleBytes h)))) :=
    congrArg _ (hostFrame_takes _ htakes)
  have hslot := s.received_slot p q (handleBytes h) h.slot
  have hjob := s.received_job p q (handleBytes h) h.slot
  have hnow := s.received_timeBase p q (handleBytes h)
  have hchain : (s.received p q (handleBytes h)).inChain h.slot = s.inChain h.slot :=
    State.inChain_congr rfl fun _ => rfl
  rw [← State.received_admits s p p q (handleBytes h)] at hadmits
  rw [← State.received_roles s p p q (handleBytes h)] at hroles
  rw [← State.received_handleOk s p q (handleBytes h)] at hok
  rw [← State.received_testFails s p q (handleBytes h)] at htest
  have hp := parseHandle_handleBytes h
  rw [haccept, hdecline, acceptBody, declineBody, ← hslot, ← hjob, ← hnow, ← hchain]
  generalize s.received p q (handleBytes h) = u at *
  have refused {st : Status} (hk : ∀ k, offerCommand p (handleBytes h) u k = refuse st u) :
      ∀ k, Host.Outcome.next (finishTaken p (offerCommand p (handleBytes h) u k)) =
        (.next (u.answer p ⟨st, []⟩) : Next) := fun k => by rw [hk, finishTaken_refuse]
  refine ⟨fun hst hc => ⟨?_, ?_⟩, fun hst => ?_, fun hst => ?_, fun hst hc => ?_, fun hst hc => ?_⟩
  · rw [offerCommand_of _ hadmits hroles hp hok htest hst hc, finishTaken_accepted]
    rfl
  · rw [offerCommand_of _ hadmits hroles hp hok htest hst hc, finishTaken_accepted, State.declineJob_eq p hst]
    rfl
  · have hk := refused fun k => offerCommand_ended k hadmits hroles hp hok htest hst
    exact ⟨hk _, hk _⟩
  · have hk := refused fun k => offerCommand_queued k hadmits hroles hp hok htest hst
    exact ⟨hk _, hk _⟩
  · have hk := refused fun k => offerCommand_other k hadmits hroles hp hok htest hst hc
    exact ⟨hk _, hk _⟩
  · have hk := refused fun k => offerCommand_active k hadmits hroles hp hok htest hst hc
    exact ⟨hk _, hk _⟩

end Sys2Proof.Machine
end

section
/-! PROOFS. The expiry of an offer's window (R57) and the missed offers of a port (R64). -/

namespace Sys2Proof.Machine

/-! ### The missed offers of a port (R64) -/

/-- A first or second missed offer in a row is counted. -/
theorem State.missOffer_counts {s : State} {p : Port} (h : (s.port p).missed < 2) :
    s.missOffer p = s.modPort p fun r => { r with missed := r.missed + 1 } := by
  have h3 : (s.port p).missed < 3 := by omega
  have hne : ¬ (s.port p).missed + 1 = 3 := by omega
  simp only [State.missOffer, Config.missLimit, h3, hne, if_true, if_false]

/-- The port after its third missed offer in a row: STALLED, and told so. -/
def State.stall (s : State) (p : Port) : State :=
  (s.modPort p fun r => { r with missed := 3, stalled := true }).notifyPort p .stalled

/-- A third missed offer in a row stalls the port, and a manager is told. -/
theorem State.missOffer_stalls {s : State} {p : Port} (h : (s.port p).missed = 2) :
    (s.manager = none → s.missOffer p = s.stall p)
      ∧ ∀ m : Port, s.manager = some m → s.missOffer p = (s.stall p).notifyPort m (.portStalled p) := by
  have hport : (s.modPort p fun r => { r with missed := r.missed + 1 }).modPort p (fun r => { r with stalled := true })
      = s.modPort p fun r => { r with missed := 3, stalled := true } := by
    rw [State.modPort_modPort, State.modPort, State.modPort, h]
  unfold State.missOffer State.stall
  dsimp only
  rw [h, hport]
  exact ⟨fun hm => by rw [hm]; rfl, fun m hm => by rw [hm]; rfl⟩

/-- A STALLED port's count stands at its limit. -/
theorem State.missOffer_stalled {s : State} {p : Port} (h : 3 ≤ (s.port p).missed) : s.missOffer p = s :=
  if_neg (Nat.not_lt.mpr h)

/-! ### OFFER_WINDOW_EXPIRY (R57) -/

/-- Without a due deadline no window expires (log entry 7). -/
theorem execOfferWindowExpiry_not_due {s : State} {i : SlotId} (hd : s.offerDue i = false) :
    execOfferWindowExpiry i s = .next s := by
  simp [execOfferWindowExpiry, hd]

/-- At its due deadline the offer of a sound record ends (R57). -/
theorem execOfferWindowExpiry_due {s : State} {i : SlotId} {p : Port} (h0 : s.inReset = false)
    (hd : s.offerDue i = true) (hok : (s.slot i).checkOk = true) (hc : (s.job i).consumer = some p) :
    execOfferWindowExpiry i s = .next (s.expireOffer i p) := by
  simp [execOfferWindowExpiry, h0, hd, State.testFails_of_checkOk hok, hc]

/-- Settles O37: the offer ends as a decline with its notice, and what is left is `State.missOffer` by the count. -/
theorem offerWindowExpiryCountsAMiss : Obligations.OfferWindowExpiryCountsAMiss := by
  unfold Obligations.OfferWindowExpiryCountsAMiss
  intro s i h0
  refine ⟨execOfferWindowExpiry_not_due, fun p d hst hok hc hdl hd => ?_⟩
  have hdue : s.offerDue i = true := by simp [State.offerDue, State.due, hst, hdl, hd]
  have hexec : exec (.offerWindowExpiry i) s =
      .next (((s.declineJob i p).notifyConsumer i p (.offerWithdrawn .window)).missOffer p) :=
    execOfferWindowExpiry_due h0 hdue hok hc
  dsimp only
  rw [hexec, State.declineJob_eq p hst]
  dsimp only [Slot.declinedBy]
  generalize hr : State.notifyConsumer _ i p (.offerWithdrawn .window) = r
  have hmissed : (r.port p).missed = (s.port p).missed := by
    rw [← hr, (State.notifyConsumer_port _ i p _ p).1]
    rfl
  have hmanager : r.manager = s.manager := by
    rw [← hr, State.notifyConsumer_rest]
    rfl
  rw [← hmissed, ← hmanager]
  refine ⟨fun h => congrArg _ (State.missOffer_counts h), fun h => ?_,
    fun h => congrArg _ (State.missOffer_stalled h)⟩
  obtain ⟨hnone, hsome⟩ := State.missOffer_stalls h
  exact ⟨fun hm => congrArg _ (hnone hm), fun m hm => congrArg _ (hsome m hm)⟩

end Sys2Proof.Machine
end

section
/-! PROOFS. The Dispatcher's order: the ranking of jobs (R50, R67), eligibility (R48) and the consumer choice (R51). -/

namespace Sys2Proof.Machine

/-! ### The ranking (R50) -/

/-- The part of the ranking at one urgency: the classes in rotation order, each with its queue's jobs of that
urgency, paused classes left out. -/
def State.rankedAt (s : State) (u : Nat) : List SlotId :=
  s.rotatedClasses.flatMap fun c =>
    if s.isPaused c then [] else (s.classQueue c).filter fun i => (s.job i).urgency == u

theorem State.ranked_eq (s : State) : s.ranked = (List.range 16).reverse.flatMap s.rankedAt := rfl

theorem State.urgency_of_mem_rankedAt {s : State} {u : Nat} {i : SlotId} (h : i ∈ s.rankedAt u) :
    (s.job i).urgency = u := by
  obtain ⟨c, -, hi⟩ := List.mem_flatMap.mp h
  split at hi
  · exact absurd hi List.not_mem_nil
  · simpa using (List.mem_filter.mp hi).2

/-- The parts stand by falling urgency. -/
theorem State.ranked_pairwise (s : State) :
    s.ranked.Pairwise fun i j => (s.job j).urgency ≤ (s.job i).urgency := by
  rw [State.ranked_eq, List.pairwise_flatMap]
  refine ⟨fun u _ => ?_, ?_⟩
  · exact List.pairwise_of_forall_mem_list fun i hi j hj => by
      rw [State.urgency_of_mem_rankedAt hi, State.urgency_of_mem_rankedAt hj]
  · refine (List.pairwise_reverse.mpr List.pairwise_lt_range).imp fun {u v} huv i hi j hj => ?_
    rw [State.urgency_of_mem_rankedAt hi, State.urgency_of_mem_rankedAt hj]
    exact huv.le

/-- The jobs of one urgency in the part of another are all of that part or none. -/
theorem State.filter_rankedAt (s : State) (u v : Nat) :
    (s.rankedAt v).filter (fun i => (s.job i).urgency == u) = if v = u then s.rankedAt u else [] := by
  split
  next h =>
    subst h
    exact List.filter_eq_self.mpr fun i hi => by simp [State.urgency_of_mem_rankedAt hi]
  next h => exact List.filter_eq_nil_iff.mpr fun i hi => by simp [State.urgency_of_mem_rankedAt hi, h]

/-- Of lists of which all but one are empty the join is that one. -/
theorem flatMap_ite_eq {α : Type} {l : List Nat} {u : Nat} (x : List α) (hl : l.Nodup) (hu : u ∈ l) :
    (l.flatMap fun v => if v = u then x else []) = x := by
  obtain ⟨a, b, rfl⟩ := List.append_of_mem hu
  have hab : ∀ v, v ∈ a ∨ v ∈ b → v ≠ u := by
    rintro v hv rfl
    exact (List.nodup_middle.mp hl).notMem (List.mem_append.mpr hv)
  have ha : (a.flatMap fun v => if v = u then x else []) = [] :=
    List.flatMap_eq_nil_iff.mpr fun v hv => if_neg (hab v (.inl hv))
  have hb : (b.flatMap fun v => if v = u then x else []) = [] :=
    List.flatMap_eq_nil_iff.mpr fun v hv => if_neg (hab v (.inr hv))
  rw [List.flatMap_append, List.flatMap_cons, ha, hb, if_pos rfl, List.nil_append, List.append_nil]

/-- The jobs of one urgency in the ranking are its part. -/
theorem State.filter_ranked (s : State) {u : Nat} (hu : u ≤ 15) :
    s.ranked.filter (fun i => (s.job i).urgency == u) = s.rankedAt u := by
  rw [State.ranked_eq, List.filter_flatMap]
  simp only [State.filter_rankedAt]
  exact flatMap_ite_eq _ (List.nodup_reverse.mpr List.nodup_range)
    (List.mem_reverse.mpr (List.mem_range.mpr (Nat.lt_succ_of_le hu)))

/-! ### Eligibility (R48) -/

theorem State.eligible_iff (s : State) (i : SlotId) (p : Port) :
    s.eligible i p = true ↔ (s.port p).state = .joined
      ∧ (s.port p).roles.consumer = true ∧ (s.port p).stalled = false
      ∧ (s.port p).mask.getLsbD (s.job i).cls.val = true ∧ (s.port p).floor ≤ (s.job i).urgency
      ∧ s.load p < (s.port p).credits
      ∧ (s.job i).declined[p] = false ∧ (s.port p).queue.length < 32 ∧ s.owed p = false := by
  rw [← State.room_iff]
  simp only [State.eligible, Bool.and_eq_true, beq_iff_eq, Bool.not_eq_true', decide_eq_true_eq, and_assoc]

theorem State.mem_rotatedPorts (s : State) (p : Port) : p ∈ s.rotatedPorts :=
  List.mem_map.mpr ⟨p - s.portPtr, List.mem_finRange _, add_sub_cancel _ _⟩

theorem State.mem_eligiblePorts {s : State} {i : SlotId} {p : Port} :
    p ∈ s.eligiblePorts i ↔ s.eligible i p = true := by
  rw [State.eligiblePorts, List.mem_filter]
  exact and_iff_right (s.mem_rotatedPorts p)

/-! ### The consumer choice (R51) -/

/-- The eligible ports with the least load (R51 step 1). -/
def State.tied (s : State) (i : SlotId) (p : Port) : Prop :=
  s.eligible i p = true ∧ ∀ x : Port, s.eligible i x = true → s.load p ≤ s.load x

/-- The tied ports, in rotation order. -/
def State.tiedPorts (s : State) (i : SlotId) : List Port :=
  (s.eligiblePorts i).filter fun p => (s.eligiblePorts i).all fun x => s.load p ≤ s.load x

theorem State.mem_tiedPorts {s : State} {i : SlotId} {p : Port} : p ∈ s.tiedPorts i ↔ s.tied i p := by
  simp only [State.tiedPorts, List.mem_filter, List.all_eq_true, decide_eq_true_eq, State.mem_eligiblePorts, State.tied]

/-- Among eligible ports one has the least load. -/
theorem State.tiedPorts_eq_nil_iff {s : State} {i : SlotId} :
    s.tiedPorts i = [] ↔ ∀ p : Port, s.eligible i p = false := by
  refine ⟨fun h p => Bool.eq_false_iff.mpr fun hp => ?_, fun h => List.eq_nil_iff_forall_not_mem.mpr fun p hp => ?_⟩
  · obtain ⟨m, hm, hleast⟩ := (Finset.univ.filter fun x => s.eligible i x = true).exists_min_image s.load
      ⟨p, Finset.mem_filter.mpr ⟨Finset.mem_univ p, hp⟩⟩
    have htied : s.tied i m := ⟨(Finset.mem_filter.mp hm).2,
      fun x hx => hleast x (Finset.mem_filter.mpr ⟨Finset.mem_univ x, hx⟩)⟩
    exact List.not_mem_nil (h ▸ State.mem_tiedPorts.mpr htied)
  · exact Bool.eq_false_iff.mp (h p) (State.mem_tiedPorts.mp hp).1

/-- The rotation visits the ports by their distance from its pointer. -/
theorem State.rotatedPorts_pairwise (s : State) :
    s.rotatedPorts.Pairwise fun p x => (p - s.portPtr).val ≤ (x - s.portPtr).val := by
  refine List.pairwise_map.mpr ((List.pairwise_le_finRange 4).imp fun {a b} hab => ?_)
  rw [add_sub_cancel_left, add_sub_cancel_left]
  exact hab

/-- The first tied port in the rotation is the one nearest to the pointer (R51 step 3). -/
theorem State.nearest_of_head? {s : State} {i : SlotId} {p : Port} (h : (s.tiedPorts i).head? = some p) :
    ∀ x : Port, s.tied i x → (p - s.portPtr).val ≤ (x - s.portPtr).val := by
  intro x hx
  have hsorted : (s.tiedPorts i).Pairwise fun p x => (p - s.portPtr).val ≤ (x - s.portPtr).val :=
    (s.rotatedPorts_pairwise.filter _).filter _
  obtain ⟨l, hl⟩ := List.head?_eq_some_iff.mp h
  have hx' := State.mem_tiedPorts.mpr hx
  rw [hl] at hsorted hx'
  obtain rfl | hx' := List.mem_cons.mp hx'
  · exact le_rfl
  · exact (List.pairwise_cons.mp hsorted).1 x hx'

/-- A chain whose last consumer is tied stays with it (R51 step 2). -/
theorem State.choosePort_affine {s : State} {i : SlotId} {l : Port} (ha : s.affinity i = some l) (hl : s.tied i l) :
    s.choosePort i = some l := by
  have hmem : (s.tiedPorts i).contains l = true := List.contains_iff_mem.mpr (State.mem_tiedPorts.mpr hl)
  simp only [State.choosePort, ha]
  exact if_pos hmem

/-- Any other job goes to the first tied port of the rotation. -/
theorem State.choosePort_rotation {s : State} {i : SlotId} (h : ∀ l, s.affinity i = some l → ¬ s.tied i l) :
    s.choosePort i = (s.tiedPorts i).head? := by
  unfold State.choosePort
  dsimp only
  split
  next l hl =>
    exact if_neg fun hmem => h l hl (State.mem_tiedPorts.mp (List.contains_iff_mem.mp hmem))
  next => rfl

theorem State.affinity_eq_some_iff {s : State} {i : SlotId} {l : Port} :
    s.affinity i = some l ↔ ∃ e, s.inChain i = some e ∧ (s.chain e).lastConsumer = some l := by
  unfold State.affinity
  split
  next e he => simp [he]
  next he => simp [he]

/-- A port is chosen exactly when one is eligible (R49). -/
theorem State.choosePort_eq_none_iff {s : State} {i : SlotId} :
    s.choosePort i = none ↔ ∀ p : Port, s.eligible i p = false := by
  rw [← State.tiedPorts_eq_nil_iff]
  by_cases h : ∃ l, s.affinity i = some l ∧ s.tied i l
  · obtain ⟨l, hl, ht⟩ := h
    rw [State.choosePort_affine hl ht]
    exact iff_of_false nofun (List.ne_nil_of_mem (State.mem_tiedPorts.mpr ht))
  · rw [State.choosePort_rotation fun l hl ht => h ⟨l, hl, ht⟩, List.head?_eq_none_iff]

/-- The port chosen is a tied one (R51 step 1). -/
theorem State.tied_of_choosePort {s : State} {i : SlotId} {p : Port} (h : s.choosePort i = some p) : s.tied i p := by
  by_cases ha : ∃ l, s.affinity i = some l ∧ s.tied i l
  · obtain ⟨l, hl, ht⟩ := ha
    rw [State.choosePort_affine hl ht] at h
    exact Option.some.inj h ▸ ht
  · rw [State.choosePort_rotation fun l hl ht => ha ⟨l, hl, ht⟩] at h
    exact State.mem_tiedPorts.mp (List.mem_of_head? h)

/-- Settles O36: the ranking is the join of its parts, and the choice is the last consumer or the head of a list in
rotation order. -/
theorem rankingAndConsumerChoice : Obligations.RankingAndConsumerChoice := by
  unfold Obligations.RankingAndConsumerChoice
  intro s
  refine ⟨s.ranked_pairwise, fun u hu => ?_, s.eligible_iff, fun i => ⟨State.choosePort_eq_none_iff, fun p hp =>
    ⟨State.tied_of_choosePort hp, fun e l he hl ht => ?_, fun h => ?_⟩⟩⟩
  · rw [s.filter_ranked hu, State.rankedAt, State.rotatedClasses, List.flatMap_map]
    rfl
  · rw [State.choosePort_affine (State.affinity_eq_some_iff.mpr ⟨e, he, hl⟩) ht] at hp
    exact (Option.some.inj hp).symm
  · rw [State.choosePort_rotation fun l hl ht => ?_] at hp
    · exact State.nearest_of_head? hp
    · obtain ⟨e, he, hl⟩ := State.affinity_eq_some_iff.mp hl
      exact h e l he hl ht

end Sys2Proof.Machine
end

section
/-! PROOFS. OFFER (R47, R49, R50, R52, R53): what the Dispatcher stops at, the bound on its quarantines, and the
statement. -/

namespace Sys2Proof.Machine

/-! ### What a quarantine leaves of the other records -/

/-- In `t` every record is that of `s`, or agrees with its check code (R13). -/
def State.MendsTo (s t : State) : Prop := ∀ j : SlotId, t.slot j = s.slot j ∨ (t.slot j).checkOk = true

theorem State.MendsTo.refl (s : State) : s.MendsTo s := fun _ => .inl rfl

theorem State.MendsTo.trans {s t u : State} (h : s.MendsTo t) (h' : t.MendsTo u) : s.MendsTo u := fun j =>
  (h' j).elim (fun e => (h j).elim (fun e' => .inl (e.trans e')) fun hk => .inr (by rw [e, hk])) .inr

/-- A record that agrees with its check code still does. -/
theorem State.MendsTo.checkOk {s t : State} (h : s.MendsTo t) {j : SlotId} (hj : (s.slot j).checkOk = true) :
    (t.slot j).checkOk = true := (h j).elim (fun e => by rw [e, hj]) id

/-- A record that fails its test has failed it before. -/
theorem State.MendsTo.testFails {s t : State} (h : s.MendsTo t) {j : SlotId} (hj : t.testFails j = true) :
    s.testFails j = true := by
  obtain e | hok := h j
  · rwa [State.testFails, ← e]
  · exact absurd hj (by simp [State.testFails_of_checkOk hok])

/-- Changes of one record after which it agrees with its check code. -/
theorem State.MendsTo.of_one {s t : State} (i : SlotId) (hne : ∀ j, j ≠ i → t.slot j = s.slot j)
    (hi : (t.slot i).checkOk = true) : s.MendsTo t := fun j => by
  by_cases h : j = i
  · exact .inr (h ▸ hi)
  · exact .inl (hne j h)

theorem State.enterQuarantine_checkOk (s : State) (i : SlotId) :
    ((s.enterQuarantine i).slot i).checkOk = true := by
  rw [State.enterQuarantine_slot, if_pos rfl]

theorem State.enterQuarantine_mends (s : State) (i : SlotId) : s.MendsTo (s.enterQuarantine i) :=
  .of_one i (fun j hj => by rw [State.enterQuarantine_slot, if_neg hj]) (s.enterQuarantine_checkOk i)

/-- Each job of a break is quarantined or finished, and either writes its record (R37). -/
theorem breakJob_mends (a : State × Nat) (j : SlotId) : a.1.MendsTo (breakJob a j).1 := by
  refine .of_one j (fun k hk => breakJob_slot_of_ne a hk) ?_
  cases h : a.1.testFails j with
  | true =>
    rw [breakJob_failing a.2 h]
    exact State.passLost_checkOk _ _ _ (a.1.enterQuarantine_checkOk j)
  | false =>
    rw [breakJob_sound a.2 h]
    exact (State.finishTail_ended _ j .chainBroken).sound

theorem State.breakChain_mends (s : State) (e : ChainId) (x : Handle) : s.MendsTo (s.breakChain e x) := by
  intro j
  rw [State.breakChain_slot]
  exact foldl_keeps (P := fun a : State × Nat => s.MendsTo a.1) (fun a k ha => ha.trans (breakJob_mends a k))
    (s.chain e).list (a := (s, 0)) (.refl s) j

theorem State.breakIfStrict_mends (s : State) (o : Option ChainId) (x : Handle) :
    s.MendsTo (s.breakIfStrict o x) := by
  unfold State.breakIfStrict
  split
  · split
    · exact s.breakChain_mends _ x
    · exact .refl s
  · exact .refl s

/-- A quarantine leaves no new failing record, and the slot quarantined has none (R13, R15). -/
theorem State.quarantine_mends (s : State) (i : SlotId) :
    s.MendsTo (s.quarantine i) ∧ ((s.quarantine i).slot i).checkOk = true := by
  have hbreak := (s.enterQuarantine i).breakIfStrict_mends (s.inChain i) (s.handle i)
  have hi := hbreak.checkOk (s.enterQuarantine_checkOk i)
  have hlost : ((s.quarantine i).slot i).checkOk = true := State.passLost_checkOk _ i (s.holder i) hi
  exact ⟨((s.enterQuarantine_mends i).trans hbreak).trans
    (.of_one i (fun j hj => State.passLost_slot_of_ne _ _ _ hj) hlost), hlost⟩

/-! ### The number of failing records -/

/-- The slots whose records fail their test (R13). -/
def State.failing (s : State) : Finset SlotId := Finset.univ.filter fun i => s.testFails i = true

theorem State.mem_failing {s : State} {i : SlotId} : i ∈ s.failing ↔ s.testFails i = true := by
  simp [State.failing]

theorem State.failing_card_le (s : State) : s.failing.card ≤ 256 :=
  (Finset.card_le_univ _).trans_eq (Fintype.card_fin 256)

/-- Each quarantine of a failing record leaves fewer of them. -/
theorem State.failing_quarantine_lt {s : State} {i : SlotId} (h : s.testFails i = true) :
    (s.quarantine i).failing.card < s.failing.card := by
  obtain ⟨hmends, hi⟩ := s.quarantine_mends i
  have hsub : (s.quarantine i).failing ⊆ s.failing := fun j hj =>
    State.mem_failing.mpr (hmends.testFails (State.mem_failing.mp hj))
  refine Finset.card_lt_card ((Finset.ssubset_iff_of_subset hsub).mpr ⟨i, State.mem_failing.mpr h, ?_⟩)
  simp [State.mem_failing, State.testFails_of_checkOk hi]

/-! ### What the Dispatcher stops at (R50) -/

/-- The job of the ranking is passed over: the record read for it is sound, and it is chain-blocked or has no
eligible port. -/
def State.passes (s : State) (i : SlotId) : Prop :=
  s.testFails (s.front i) = false ∧ (s.front i = i → ∀ p : Port, s.eligible i p = false)

theorem State.stopsAt_eq_false_iff {s : State} {i : SlotId} : s.stopsAt i = false ↔ s.passes i := by
  have hnone : (s.eligiblePorts i).isEmpty = true ↔ ∀ p : Port, s.eligible i p = false := by
    simp only [List.isEmpty_iff, List.eq_nil_iff_forall_not_mem, State.mem_eligiblePorts, Bool.not_eq_true]
  rw [State.stopsAt, State.passes, ← hnone, Bool.or_eq_false_iff, Bool.and_eq_false_imp, beq_iff_eq,
    Bool.not_eq_false']

/-- The job that the Dispatcher stops at, if there is one. -/
def State.stop (s : State) : Option SlotId := s.ranked.find? s.stopsAt

theorem State.stop_eq_none {s : State} (h : ∀ i ∈ s.ranked, s.passes i) : s.stop = none :=
  List.find?_eq_none.mpr fun i hi => Bool.eq_false_iff.mp (State.stopsAt_eq_false_iff.mpr (h i hi))

/-- It stops at the first job of the ranking that is not passed over. -/
theorem State.stop_eq_some_iff {s : State} {i : SlotId} :
    s.stop = some i ↔ ¬ s.passes i ∧ ∃ above below : List SlotId, s.ranked = above ++ i :: below
      ∧ ∀ j ∈ above, s.passes j := by
  simp only [State.stop, List.find?_eq_some_iff_append, ← State.stopsAt_eq_false_iff, Bool.not_eq_true',
    Bool.not_eq_false]

/-- The job stopped at is one whose record fails. -/
def State.meetsFailing (s : State) (i : SlotId) : Prop :=
  s.testFails (s.front i) = true
    ∧ ∃ above below : List SlotId, s.ranked = above ++ i :: below ∧ ∀ j ∈ above, s.passes j

/-- A sound record at which the Dispatcher stops has a port to be offered to. -/
theorem State.choosePort_of_stop {s : State} {i : SlotId} (h : s.stop = some i)
    (ht : s.testFails (s.front i) = false) : ∃ p, s.choosePort i = some p :=
  Option.ne_none_iff_exists'.mp fun hnone =>
    (State.stop_eq_some_iff.mp h).1 ⟨ht, fun _ => State.choosePort_eq_none_iff.mp hnone⟩

theorem State.stop_of_meetsFailing {s : State} {i : SlotId} (h : s.meetsFailing i) : s.stop = some i :=
  State.stop_eq_some_iff.mpr ⟨fun hp => absurd hp.1 (by simp [h.1]), h.2⟩

/-! ### One OFFER (R49, R50) -/

section
variable {s : State} {i : SlotId} (n : Nat) (b : Bool)

theorem State.dispatch_none (h : s.stop = none) : State.dispatch (n + 1) b s = (s, b) := by
  rw [State.stop] at h
  simp only [State.dispatch, h]

theorem State.dispatch_failing (h : s.stop = some i) (ht : s.testFails (s.front i) = true) :
    State.dispatch (n + 1) b s = State.dispatch n true (s.quarantine (s.front i)) := by
  rw [State.stop] at h
  simp only [State.dispatch, h, ht, if_true]

theorem State.dispatch_sound {p : Port} (h : s.stop = some i) (ht : s.testFails (s.front i) = false)
    (hp : s.choosePort i = some p) : State.dispatch (n + 1) b s = (s.makeOffer i p, b) := by
  rw [State.stop] at h
  simp only [State.dispatch, h, ht, hp, Bool.false_eq_true, if_false]

end

/-- Where no failing record is met the Bool is handed through, and the fuel plays no part. -/
theorem State.dispatch_of_none_failing {s : State} (h : ∀ i, ¬ s.meetsFailing i) :
    ∃ w, ∀ n b, State.dispatch (n + 1) b s = (w, b) := by
  cases hs : s.stop with
  | none => exact ⟨s, fun n b => State.dispatch_none n b hs⟩
  | some i =>
    have ht : s.testFails (s.front i) = false :=
      Bool.eq_false_iff.mpr fun ht => h i ⟨ht, (State.stop_eq_some_iff.mp hs).2⟩
    obtain ⟨p, hp⟩ := State.choosePort_of_stop hs ht
    exact ⟨s.makeOffer i p, fun n b => State.dispatch_sound n b hs ht hp⟩

/-- Fuel beyond the number of failing records plays no part: each quarantine leaves fewer of them (log entry 16). -/
theorem State.dispatch_fuel {n m : Nat} {s : State} (b : Bool) (hn : s.failing.card < n) (hm : s.failing.card < m) :
    State.dispatch n b s = State.dispatch m b s := by
  induction n generalizing m s b with
  | zero => exact absurd hn (Nat.not_lt_zero _)
  | succ n ih =>
    obtain ⟨m, rfl⟩ := Nat.exists_eq_add_one_of_ne_zero (Nat.ne_zero_of_lt hm)
    by_cases h : ∃ i, s.meetsFailing i
    · obtain ⟨i, hi⟩ := h
      have hlt := State.failing_quarantine_lt hi.1
      rw [State.dispatch_failing n b (State.stop_of_meetsFailing hi) hi.1,
        State.dispatch_failing m b (State.stop_of_meetsFailing hi) hi.1]
      exact ih true (by omega) (by omega)
    · obtain ⟨w, hw⟩ := State.dispatch_of_none_failing (not_exists.mp h)
      rw [hw, hw]

/-! ### The event -/

/-- The quarantine of a record leaves HOLD and the reset pin as they are. -/
theorem State.quarantine_hold (s : State) (i : SlotId) :
    (s.quarantine i).hold = s.hold ∧ (s.quarantine i).inReset = s.inReset := by
  have K : Kept fun t => t.hold = s.hold ∧ t.inReset = s.inReset :=
    { rest := fun h _ _ hhold hreset _ _ => ⟨hhold.trans h.1, hreset.trans h.2⟩
      quiet := fun _ h => h
      enqueue := fun _ h => h }
  exact K.quarantine i ⟨rfl, rfl⟩

theorem exec_offer (s : State) : exec .offer s = execOffer s := rfl

/-- Under HOLD no offer is made (R47). -/
theorem execOffer_hold {s : State} (hh : s.hold = true) : execOffer s = .next s := by
  simp [execOffer, hh]

/-- Out of reset and without HOLD the event is the Dispatcher's, with a close after a quarantine (R49, R99). -/
theorem execOffer_eq {s : State} (h0 : s.inReset = false) (hh : s.hold = false) :
    execOffer s = .next ((State.dispatch 257 false s).1.closeIf (State.dispatch 257 false s).2) := by
  simp [execOffer, h0, hh]

/-- An OFFER that meets a failing record goes on from its quarantine, and closes (R50, R99; log entry 16). -/
theorem execOffer_failing {s : State} {i : SlotId} (h0 : s.inReset = false) (hh : s.hold = false)
    (hi : s.meetsFailing i) :
    execOffer s = .next ((State.dispatch 256 true (s.quarantine (s.front i))).1.closeIf
      (State.dispatch 256 true (s.quarantine (s.front i))).2) := by
  rw [execOffer_eq h0 hh, State.dispatch_failing 256 false (State.stop_of_meetsFailing hi) hi.1]

/-- Settles O35: the job stopped at decides; a failing one costs a quarantine, and fuel enough for all is left. -/
theorem offerGoesToTheHighestRanked : Obligations.OfferGoesToTheHighestRanked := by
  unfold Obligations.OfferGoesToTheHighestRanked
  intro s h0
  dsimp only
  simp only [exec_offer]
  refine ⟨execOffer_hold, fun hh => ⟨fun hall => ?_, fun i p above below hr hall hfront ht hp => ?_, fun i hi => ?_⟩⟩
  · rw [execOffer_eq h0 hh, State.dispatch_none _ _ (State.stop_eq_none hall)]
    rfl
  · have hnot : ¬ s.passes i := fun hpass =>
      Bool.eq_false_iff.mp (hpass.2 hfront p) (State.tied_of_choosePort hp).1
    have hstop : s.stop = some i := State.stop_eq_some_iff.mpr ⟨hnot, above, below, hr, hall⟩
    rw [execOffer_eq h0 hh, State.dispatch_sound _ _ hstop (by rwa [hfront]) hp]
    rfl
  · obtain ⟨hvhold, hvreset⟩ := s.quarantine_hold (s.front i)
    have hlt := State.failing_quarantine_lt hi.1
    have hs := execOffer_failing h0 hh hi
    generalize s.quarantine (s.front i) = v at *
    rw [h0] at hvreset
    rw [hh] at hvhold
    refine ⟨fun ⟨k, hk⟩ => ?_, fun hnone => ?_⟩
    · have hcard := s.failing_card_le
      have hlt' := State.failing_quarantine_lt hk.1
      rw [hs, execOffer_failing hvreset hvhold hk,
        State.dispatch_failing 255 true (State.stop_of_meetsFailing hk) hk.1,
        State.dispatch_fuel true (n := 255) (m := 256) (by omega) (by omega)]
    · obtain ⟨w, hw⟩ := State.dispatch_of_none_failing hnone
      refine ⟨w, ?_, ?_⟩
      · rw [execOffer_eq hvreset hvhold, hw]
        rfl
      · rw [hs, hw]
        rfl

end Sys2Proof.Machine
end

section
/-! PROOFS. What the end of a hold by its holder makes of the job's record: RETURN and COMPLETE (R74, R78 to R81,
R88). -/

namespace Sys2Proof.Machine

/-! ### One write of a record after another -/

/-- Two writes of one record are one write. -/
theorem State.writeSlot_writeSlot (s : State) (i : SlotId) (f g : Slot → Slot) :
    (s.writeSlot i f).writeSlot i g = s.writeSlot i fun sl => g { f sl with checkOk := true } :=
  s.modSlot_modSlot i _ _

/-- The queue that a job enters after a write of its record is its own class's, where the write keeps the class. -/
theorem State.enterQueue_writeSlot {s : State} {i : SlotId} {f : Slot → Slot}
    (h : (f (s.slot i)).job.cls = (s.job i).cls) :
    (s.writeSlot i f).enterQueue i =
      (s.writeSlot i f).modQueue (s.job i).cls (insertKey ((s.writeSlot i f).ahead i) i) := by
  have hcls : ((s.writeSlot i f).job i).cls = (s.job i).cls := by
    rw [State.job, State.writeSlot_slot_self]
    exact h
  rw [State.enterQueue, hcls]

/-! ### The owed CANCEL_REQUEST (R88) -/

/-- The slot whose CANCEL_REQUEST owed to port `p`, if any, is discarded (R88). -/
def Slot.withoutRequest (sl : Slot) (p : Port) : Slot :=
  { sl with
    consumerMarks :=
      if sl.consumerMarks[p] = some .cancelRequest then sl.consumerMarks.set p none else sl.consumerMarks }

/-- On a sound record the discard is a write of the record, made or not. -/
theorem State.dropCancelRequest_sound {s : State} {i : SlotId} (p : Port) (h : (s.slot i).checkOk = true) :
    s.dropCancelRequest i p = s.writeSlot i fun sl => sl.withoutRequest p := by
  by_cases hm : (s.slot i).consumerMarks[p] = some .cancelRequest
  · rw [State.dropCancelRequest, if_pos hm, State.setConsumerMark, State.writeSlot, State.writeSlot]
    exact s.modSlot_congr i (by simp only [Slot.withoutRequest, if_pos hm])
  · rw [State.dropCancelRequest, if_neg hm]
    exact (s.modSlot_self i (by simp only [Slot.withoutRequest, if_neg hm, ← h])).symm

/-- A record just written is sound, so that the discard joins the write. -/
theorem State.dropCancelRequest_writeSlot (s : State) (i : SlotId) (p : Port) (f : Slot → Slot) :
    (s.writeSlot i f).dropCancelRequest i p = s.writeSlot i fun sl => (f sl).withoutRequest p := by
  rw [State.dropCancelRequest_sound p (by rw [State.writeSlot_slot_self]), State.writeSlot_writeSlot]
  rfl

/-! ### The job leaves its holder (R74) -/

/-- Port `p`'s working set without the job of slot `i` (R74). -/
def State.dropHeld (s : State) (i : SlotId) (p : Port) : State :=
  s.modPort p fun r => { r with workingSet := r.workingSet.erase i }

/-- The record of a job that port `p` held and has given up (R74, R88). -/
def Slot.givenUp (sl : Slot) (p : Port) : Slot :=
  { sl.withoutRequest p with job := { sl.job with consumer := none, deadline := none } }

/-- The record of a job that port `p` has returned: QUEUED again, its attempt refunded, and `p` declined where asked
for (R78, R28). -/
def Slot.returnedBy (sl : Slot) (p : Port) (avoid : Bool) (now : Word) : Slot :=
  { sl.givenUp p with
    state := .queued, promoDue := 0
    job := { (sl.givenUp p).job with
      queuedSince := some now, attempts := sl.job.attempts - 1
      declined := if avoid then sl.job.declined.set p true else sl.job.declined } }

section
variable {s : State} {i : SlotId} {p : Port} (hst : (s.slot i).state = .active)
  (hc : (s.job i).consumer = some p)
include hst hc

/-- An ACTIVE job leaves its holder's working set, and its record names no holder (R74). -/
theorem State.leaveConsumer_active :
    s.leaveConsumer i = (s.dropHeld i p).writeJob i fun j => { j with consumer := none, deadline := none } := by
  simp only [State.leaveConsumer, State.dropHeld, hst, hc]

/-- The job of a RETURN under a cancel request, before it finishes (R79, R88). -/
theorem State.leaveConsumer_dropCancelRequest :
    (s.leaveConsumer i).dropCancelRequest i p = (s.dropHeld i p).writeSlot i fun sl => sl.givenUp p := by
  rw [State.leaveConsumer_active hst hc, State.writeJob, State.dropCancelRequest_writeSlot]
  rfl

/-- The job of a COMPLETE, before it finishes: the code and result are recorded in the same write (R81, R88). -/
theorem State.leaveConsumer_complete (code : Byte) (result : List Word) :
    ((s.leaveConsumer i).writeJob i fun j =>
        { j with userCode := some code, result := some result }).dropCancelRequest i p =
      (s.dropHeld i p).writeSlot i fun sl =>
        { sl.givenUp p with job := { (sl.givenUp p).job with userCode := some code, result := some result } } := by
  rw [State.leaveConsumer_active hst hc, State.writeJob, State.writeJob, State.writeSlot_writeSlot,
    State.dropCancelRequest_writeSlot]
  rfl

/-- A returned job goes back into its class queue with one write of its record (R78, R88). -/
theorem State.returnToQueue_eq (avoid : Bool) (hok : (s.slot i).checkOk = true) :
    (s.dropCancelRequest i p).returnToQueue i p avoid =
      let t := (s.dropHeld i p).writeSlot i fun sl => sl.returnedBy p avoid s.timeBase
      t.modQueue (s.job i).cls (insertKey (t.ahead i) i) := by
  have hst' : ((s.dropCancelRequest i p).slot i).state = .active := by
    rw [State.dropCancelRequest_sound p hok, State.writeSlot_slot_self]
    exact hst
  have hc' : ((s.dropCancelRequest i p).job i).consumer = some p := by
    rw [State.dropCancelRequest_sound p hok, State.job, State.writeSlot_slot_self]
    exact hc
  have hwrite : (s.dropCancelRequest i p).returnToQueue i p avoid =
      ((s.dropHeld i p).writeSlot i fun sl => sl.returnedBy p avoid s.timeBase).enterQueue i := by
    rw [State.returnToQueue, State.leaveConsumer_active hst' hc', State.dropCancelRequest_sound p hok]
    have hport : (s.writeSlot i fun sl => sl.withoutRequest p).dropHeld i p =
        (s.dropHeld i p).writeSlot i fun sl => sl.withoutRequest p := rfl
    rw [hport, State.requeue, State.writeJob, State.writeJob, State.writeSlot_writeSlot, State.writeSlot_writeSlot,
      State.writeSlot_writeSlot]
    rfl
  rw [hwrite]
  exact State.enterQueue_writeSlot rfl

end

end Sys2Proof.Machine
end

section
/-! PROOFS. The holder's commands: RENEW, RETURN and COMPLETE of the port that holds the job (R77 to R81, R88). -/

namespace Sys2Proof.Machine

/-! ### The holder's own steps -/

/-- Port `p` holds the lease of the job that `h` names, and its command on that job passes every shared step: the
port's state and role (R147), the handle (R3), the record (R13) and the holder (R75). -/
structure State.HeldBy (s : State) (h : Handle) (p : Port) : Prop where
  portState : s.admits p inSession = true
  consumer : (s.port p).roles.consumer = true
  named : s.handleOk h = true
  active : (s.slot h.slot).state = .active
  sound : (s.slot h.slot).checkOk = true
  holder : (s.job h.slot).consumer = some p

/-- The taking of a command leaves the lease with its holder. -/
theorem State.HeldBy.received {s : State} {h : Handle} {p : Port} (hh : s.HeldBy h p) (q : Seq) (ps : List Byte) :
    (s.received p q ps).HeldBy h p where
  portState := by rw [State.received_admits]; exact hh.portState
  consumer := by rw [State.received_roles]; exact hh.consumer
  named := by rw [State.received_handleOk]; exact hh.named
  active := by rw [State.received_slot]; exact hh.active
  sound := by rw [State.received_slot]; exact hh.sound
  holder := by rw [State.received_job]; exact hh.holder

section
variable {s : State} {p : Port} {ps : List Byte}

/-- The holder's command on its job has its own effect (R75, R76). -/
theorem heldCommand_of {α : Type} {params : Option α} {handle : α → Handle} {a : α} (k : α → Taken)
    (hp : params = some a) (hh : s.HeldBy (handle a) p) : heldCommand p params handle s k = k a := by
  have htest := State.testFails_of_checkOk hh.sound
  have hlive : (s.slot (handle a).slot).state ≠ .quarantined := by rw [hh.active]; exact nofun
  have hholder : s.holderTest (handle a).slot p = none := by simp [State.holderTest, hh.active, hh.holder]
  simp [heldCommand, hh.portState, hh.consumer, hp, hholder, onJob_of _ hh.named htest hlive]

/-- RENEW moves the deadline (R77). -/
theorem renewBody_of {h : Handle} {n : Nat} (hp : parseRenew ps = some (h, n)) (hh : s.HeldBy h p) :
    renewBody p ps s =
      let d := s.after (if n = 0 then (s.job h.slot).leaseLimit else n)
      accepted (handleBytes h ++ num2 (s.ticksTo d) ++ yesNo (s.job h.slot).cancelRequested)
        (s.writeJob h.slot fun j => { j with deadline := some d }) :=
  heldCommand_of _ hp hh

/-- RETURN without a cancel request requeues the job (R78). -/
theorem returnBody_requeues {h : Handle} {avoid : Bool} (hp : parseReturn ps = some (h, avoid)) (hh : s.HeldBy h p)
    (hreq : (s.job h.slot).cancelRequested = false) :
    returnBody p ps s =
      accepted ([Config.outcomeCode .requeued] ++ handleBytes h ++ num1 ((s.job h.slot).attempts - 1))
        ((s.dropCancelRequest h.slot p).returnToQueue h.slot p avoid).close := by
  rw [returnBody, heldCommand_of _ hp hh]
  dsimp only
  rw [hreq, if_neg Bool.false_ne_true, closing_accepted]

/-- RETURN under a cancel request finishes the job CANCELLED (R79). -/
theorem returnBody_finishes {h : Handle} {avoid : Bool} (hp : parseReturn ps = some (h, avoid)) (hh : s.HeldBy h p)
    (hreq : (s.job h.slot).cancelRequested = true) :
    returnBody p ps s =
      accepted ([Config.outcomeCode .finished] ++ handleBytes h ++ [FinishStatus.code .cancelled])
        (((s.leaveConsumer h.slot).dropCancelRequest h.slot p).finishJob h.slot .cancelled).close := by
  rw [returnBody, heldCommand_of _ hp hh]
  dsimp only
  rw [hreq, if_pos rfl, closing_accepted]

/-- COMPLETE finishes the job with its outcome (R81). -/
theorem completeBody_finishes {c : CompleteParams} (hp : parseComplete ps = some c) (hh : s.HeldBy c.handle p)
    (hout : ¬ (c.outcome = .cancelled ∧ (s.job c.handle.slot).cancelRequested = false)) :
    completeBody p ps s = accepted (handleBytes c.handle ++ [c.outcome.code]) (s.completeJob p c).close := by
  rw [completeBody, heldCommand_of _ hp hh, if_neg hout, closing_accepted]

/-- COMPLETE with CANCELLED needs a cancel request (R80). -/
theorem completeBody_badParam {c : CompleteParams} (hp : parseComplete ps = some c) (hh : s.HeldBy c.handle p)
    (hout : c.outcome = .cancelled ∧ (s.job c.handle.slot).cancelRequested = false) :
    completeBody p ps s = refuse .badParam s := by
  rw [completeBody, heldCommand_of _ hp hh, if_pos hout]

end

/-! ### The statements -/

/-- Settles O39: past the shared steps RENEW is one write, and RETURN requeues or finishes the job it gives up. -/
theorem renewAndReturnOfTheHolder : Obligations.RenewAndReturnOfTheHolder := by
  unfold Obligations.RenewAndReturnOfTheHolder
  intro s p q ps i htakes ha hr hok hst hsound hc
  have hh := State.HeldBy.received (h := s.handle i) ⟨ha, hr, hok, hst, hsound, hc⟩ q ps
  have hrenew : exec (.renew p q ps) s = .next (finishTaken p (renewBody p ps (s.received p q ps))) :=
    congrArg _ (hostFrame_takes _ htakes)
  have hreturn : exec (.returnJob p q ps) s = .next (finishTaken p (returnBody p ps (s.received p q ps))) :=
    congrArg _ (hostFrame_takes _ htakes)
  have hticks (d : Word) : (s.received p q ps).ticksTo d = s.ticksTo d := rfl
  dsimp only
  rw [hrenew, hreturn, ← s.received_job p q ps, ← s.received_timeBase p q ps]
  simp only [← hticks]
  generalize s.received p q ps = u at *
  refine ⟨fun n hp => ?_, fun avoid hp hreq => ?_, fun avoid hp hreq => ?_⟩
  · rw [renewBody_of hp hh, finishTaken_accepted]
    rfl
  · rw [returnBody_requeues hp hh hreq, finishTaken_accepted,
      State.returnToQueue_eq hh.active hh.holder avoid hh.sound]
    rfl
  · rw [returnBody_finishes hp hh hreq, finishTaken_accepted,
      State.leaveConsumer_dropCancelRequest hh.active hh.holder]
    rfl

/-- Settles O40: past the shared steps COMPLETE is refused, or the job given up with its code and result finishes. -/
theorem completeFinishesTheJob : Obligations.CompleteFinishesTheJob := by
  unfold Obligations.CompleteFinishesTheJob
  intro s p q ps c htakes ha hr hp hok hst hsound hc
  have hh := State.HeldBy.received ⟨ha, hr, hok, hst, hsound, hc⟩ q ps
  have hexec : exec (.complete p q ps) s = .next (finishTaken p (completeBody p ps (s.received p q ps))) :=
    congrArg _ (hostFrame_takes _ htakes)
  dsimp only
  rw [hexec, ← s.received_job p q ps]
  generalize s.received p q ps = u at *
  refine ⟨fun hgood => ?_, fun hcancel hreq => ?_⟩
  · have hout : ¬ (c.outcome = .cancelled ∧ (u.job c.handle.slot).cancelRequested = false) := by
      rintro ⟨hcancel, hreq⟩
      simp [hcancel, hreq] at hgood
    rw [completeBody_finishes hp hh hout, finishTaken_accepted, State.completeJob,
      State.leaveConsumer_complete hh.active hh.holder]
    rfl
  · rw [completeBody_badParam hp hh ⟨hcancel, hreq⟩, finishTaken_refuse]

end Sys2Proof.Machine
end

section
/-! PROOFS. The expiry of a lease (R82 to R84). -/

namespace Sys2Proof.Machine

/-! ### The lease is lost (R82) -/

/-- The loss of the lease is one write of the record, which then names the holder it was reclaimed from (R82). -/
theorem State.takeLease_eq {s : State} {i : SlotId} {p : Port} (hst : (s.slot i).state = .active)
    (hc : (s.job i).consumer = some p) :
    s.takeLease i p = (s.dropHeld i p).writeJob i fun j =>
      { j with consumer := none, deadline := none, reclaimedFrom := some p } := by
  rw [State.takeLease, State.leaveConsumer_active hst hc, State.writeJob, State.writeJob, State.writeSlot_writeSlot]
  rfl

/-! ### What becomes of the job (R83) -/

section
variable {s : State} {i : SlotId}

theorem State.disposition_cancelled (h : (s.job i).cancelRequested = true) : s.disposition i = .cancelled := if_pos h

theorem State.disposition_expired (h : (s.job i).cancelRequested = false)
    (ha : (s.job i).attempts = (s.job i).attemptLimit) : s.disposition i = .expired := by
  rw [State.disposition, h, if_neg Bool.false_ne_true, if_pos ha]

theorem State.disposition_requeued (h : (s.job i).cancelRequested = false)
    (ha : (s.job i).attempts ≠ (s.job i).attemptLimit) : s.disposition i = .requeued := by
  rw [State.disposition, h, if_neg Bool.false_ne_true, if_neg ha]

/-! ### LEASE_EXPIRY (R82) -/

/-- Without a due deadline no lease expires (log entry 7). -/
theorem execLeaseExpiry_not_due (hd : s.leaseDue i = false) : execLeaseExpiry i s = .next s := by
  simp [execLeaseExpiry, hd]

/-- At its due deadline the lease of a sound record ends (R82). -/
theorem execLeaseExpiry_due {p : Port} (h0 : s.inReset = false) (hd : s.leaseDue i = true)
    (hok : (s.slot i).checkOk = true) (hc : (s.job i).consumer = some p) :
    execLeaseExpiry i s = .next (s.expireLease i p).close := by
  simp [execLeaseExpiry, h0, hd, State.testFails_of_checkOk hok, hc]

end

/-- Settles O41: the lease is taken and its holder told, and the job goes as `State.disposition` says. -/
theorem leaseExpiryDisposesOfTheJob : Obligations.LeaseExpiryDisposesOfTheJob := by
  unfold Obligations.LeaseExpiryDisposesOfTheJob
  intro s i h0
  refine ⟨execLeaseExpiry_not_due, fun p d hst hok hc hdl hd => ?_⟩
  have hdue : s.leaseDue i = true := by simp [State.leaseDue, State.due, hst, hdl, hd]
  have hexec : exec (.leaseExpiry i) s = .next (s.expireLease i p).close := execLeaseExpiry_due h0 hdue hok hc
  dsimp only
  rw [hexec, State.expireLease, State.takeLease_eq hst hc]
  dsimp only [State.dropHeld]
  refine ⟨fun hreq => ?_, fun hreq ha => ?_, fun hreq ha => ?_⟩
  · rw [State.disposition_cancelled hreq]
    rfl
  · rw [State.disposition_expired hreq ha]
    rfl
  · rw [State.disposition_requeued hreq ha, State.dispose]
    generalize ht : State.notifyConsumer _ i p (.leaseLost .expired) = t
    have hnow : t.timeBase = s.timeBase := by
      rw [← ht, State.notifyConsumer_rest]
      rfl
    have hcls : (t.job i).cls = (s.job i).cls := by
      obtain ⟨hjob, -, -⟩ := State.notifyConsumer_job _ i i p (.leaseLost .expired)
      rw [← ht, hjob, State.writeJob_job_self]
      rfl
    rw [State.requeue, hnow, State.enterQueue_writeSlot rfl, hcls]

end Sys2Proof.Machine
end

section
/-! PROOFS. REAP (R102, R103): the release of a DONE job whose report the producer has taken. -/

namespace Sys2Proof.Machine

/-! ### The owed JOB_DONE (R103 step 2) -/

/-- A slot's producer mark once an owed JOB_DONE is discarded (R103). -/
def Slot.markWithoutDone (sl : Slot) : Option ProducerMark :=
  match sl.producerMark with
  | some ⟨_, .jobDone _ _⟩ => none
  | m => m

/-- The discard of the owed JOB_DONE and the release of the slot are one change of it (R103, R11). -/
theorem State.dropJobDone_release (s : State) (i : SlotId) :
    ((s.dropJobDone i).modSlot i fun sl =>
        { sl with state := .retiring, checkOk := true, promoDue := 0, job := Job.cleared }) =
      s.modSlot i fun sl =>
        { sl with
          state := .retiring, checkOk := true, promoDue := 0, job := Job.cleared
          producerMark := sl.markWithoutDone } := by
  unfold State.dropJobDone
  split
  next r st code h =>
    rw [State.setProducerMark, State.writeSlot, State.modSlot_modSlot]
    exact s.modSlot_congr i (by simp only [Slot.markWithoutDone, h])
  next hno =>
    refine s.modSlot_congr i ?_
    have hm : (s.slot i).markWithoutDone = (s.slot i).producerMark := by
      unfold Slot.markWithoutDone
      split
      next r st code h => exact absurd h (hno r st code)
      next => rfl
    simp only [hm]

theorem State.dropJobDone_slot (s : State) (i : SlotId) :
    ((s.dropJobDone i).slot i).state = (s.slot i).state ∧ (s.dropJobDone i).job i = s.job i := by
  unfold State.dropJobDone
  split
  · rw [State.job, State.setProducerMark, State.writeSlot_slot_self]
    exact ⟨rfl, rfl⟩
  · exact ⟨rfl, rfl⟩

theorem State.dropJobDone_rest (s : State) (i : SlotId) :
    s.dropJobDone i = { s with slots := (s.dropJobDone i).slots } := by
  unfold State.dropJobDone
  split <;> rfl

/-- A reaped job's count ends, and its slot is released without its JOB_DONE (R103). -/
theorem State.release_dropJobDone {s : State} {i : SlotId} {p : Port} (hst : (s.slot i).state = .done)
    (hp : (s.job i).producer = some p) :
    (s.dropJobDone i).release i =
      (s.modPort p fun r => { r with quotaCount := r.quotaCount - 1 }).modSlot i fun sl =>
        { sl with
          state := .retiring, checkOk := true, promoDue := 0, job := Job.cleared
          producerMark := sl.markWithoutDone } := by
  obtain ⟨hstate, hjob⟩ := s.dropJobDone_slot i
  have hcount : (s.dropJobDone i).endCount i =
      (s.dropJobDone i).modPort p fun r => { r with quotaCount := r.quotaCount - 1 } := by
    simp only [State.endCount, hjob, hp]
  have hport : (s.dropJobDone i).port p = s.port p := by rw [State.dropJobDone_rest]; rfl
  rw [State.release, if_neg (by rw [hstate, hst]; exact nofun), hcount]
  calc _ = ((s.dropJobDone i).modSlot i fun sl =>
          { sl with state := .retiring, checkOk := true, promoDue := 0, job := Job.cleared }).modPort p
            fun r => { r with quotaCount := r.quotaCount - 1 } := rfl
    _ = _ := by rw [State.dropJobDone_release]; rfl

/-! ### What REAP answers (R102) -/

section
variable {s : State} {p : Port} {ps : List Byte} {h : Handle} (ha : s.admits p inSession = true)
  (hr : (s.port p).roles.producer = true) (hp : parseHandle ps = some h)
  (hok : s.handleOk h = true) (htest : s.testFails h.slot = false)
include ha hr hp hok htest

theorem reapBody_notOwner (hown : (s.job h.slot).producer ≠ some p) (hq : (s.slot h.slot).state ≠ .quarantined) :
    reapBody p ps s = refuse .notOwner s := by
  simp [reapBody, ha, hr, hp, onJob_of _ hok htest hq, hown]

variable (hown : (s.job h.slot).producer = some p)
include hown

theorem reapBody_done {st : FinishStatus} (hst : (s.slot h.slot).state = .done)
    (hfin : (s.job h.slot).finish = some st) :
    reapBody p ps s = accepted (s.reapData h st) ((s.dropJobDone h.slot).release h.slot).close := by
  simp [reapBody, ha, hr, hp, onJob_of _ hok htest, hown, hst, hfin]

theorem reapBody_not_done (hst : (s.slot h.slot).state ≠ .done) : reapBody p ps s = refuse .jobState s := by
  by_cases hq : (s.slot h.slot).state = .quarantined
  · obtain ⟨k, hk⟩ := reapBody_onJob ha hr hp
    simp [hk, onJob, hok, htest, hq]
  · simp [reapBody, ha, hr, hp, onJob_of _ hok htest hq, hown, hst]

end

/-- Settles O29: REAP's own steps split by the producer and the state of the job, and a DONE job of the port's is
released in one change of its slot. -/
theorem reapReleasesADoneJob : Obligations.ReapReleasesADoneJob := by
  unfold Obligations.ReapReleasesADoneJob
  intro s p q h htakes hadmits hroles hok htest
  dsimp only
  have hexec : exec (.reap p q (handleBytes h)) s =
      .next (finishTaken p (reapBody p (handleBytes h) (s.received p q (handleBytes h)))) :=
    congrArg _ (hostFrame_takes _ htakes)
  have hslot := s.received_slot p q (handleBytes h) h.slot
  have hjob := s.received_job p q (handleBytes h) h.slot
  rw [← State.received_admits s p p q (handleBytes h)] at hadmits
  rw [← State.received_roles s p p q (handleBytes h)] at hroles
  rw [← State.received_handleOk s p q (handleBytes h)] at hok
  rw [← State.received_testFails s p q (handleBytes h)] at htest
  have hp := parseHandle_handleBytes h
  rw [hexec, ← hslot, ← hjob]
  generalize s.received p q (handleBytes h) = u at *
  refine ⟨fun st hown hst hfin => ?_, fun hown hq => ?_, fun hown hst => ?_⟩
  · rw [reapBody_done hadmits hroles hp hok htest hown hst hfin, finishTaken_accepted,
      State.release_dropJobDone hst hown]
    rfl
  · rw [reapBody_notOwner hadmits hroles hp hok htest hown hq, finishTaken_refuse]
  · rw [reapBody_not_done hadmits hroles hp hok htest hown hst, finishTaken_refuse]

end Sys2Proof.Machine
end

section
/-! PROOFS. The finishing procedure without a break (R95 to R98): the job leaves its collections, its completion action
is a combine, and it is reported or released. -/

namespace Sys2Proof.Machine

/-! ### The job leaves its collections (R95) -/

/-- The record of a job that has left its class queue or its consumer, and its chain list (R95). -/
def Slot.leftLive (sl : Slot) : Slot :=
  { sl with
    checkOk := true, promoDue := 0
    job := { sl.job with
      consumer := none, deadline := none, queuedSince := none
      declined := Vector.replicate 4 false, reclaimedFrom := none, cancelRequested := false } }

theorem State.leaveLive_slot_self (s : State) (i : SlotId) : (s.leaveLive i).slot i = (s.slot i).leftLive := by
  obtain ⟨hgen, hstate, hprod, hcons, c, d, hjob⟩ := s.leaveCollection_slot_fields i
  rw [State.leaveLive, State.writeSlot_slot_self, State.leaveChain_slot]
  simp only [Slot.leftLive, hgen, hstate, hprod, hcons, hjob, State.job]

theorem State.leaveLive_classQueue (s : State) (i : SlotId) (c : ClassId) :
    (s.leaveLive i).classQueue c =
      if (s.slot i).state = .queued ∧ c = (s.job i).cls then (s.classQueue c).erase i else s.classQueue c := by
  rw [State.leaveLive, State.writeSlot_classQueue, State.leaveChain_rest]
  exact s.leaveCollection_classQueue i c

theorem State.leaveLive_rest (s : State) (i : SlotId) :
    s.leaveLive i = { s with
      ports := (s.leaveLive i).ports, slots := (s.leaveLive i).slots
      classQueues := (s.leaveLive i).classQueues, chains := (s.leaveLive i).chains } := by
  unfold State.leaveLive
  rw [State.leaveChain_rest, State.leaveCollection_rest]
  rfl

/-- A job without a holder is in no working set: its leaving changes no port. -/
theorem State.leaveLive_ports {s : State} {i : SlotId} (h : (s.slot i).state = .active → (s.job i).consumer = none) :
    (s.leaveLive i).ports = s.ports := by
  have hc : (s.leaveCollection i).ports = s.ports := by
    refine Vector.ext fun k hk => ?_
    have hx := s.leaveCollection_port i ⟨k, hk⟩
    rw [if_neg fun hh => by simp [h hh.1] at hh] at hx
    exact hx
  rw [State.leaveLive, State.writeSlot_ports, State.leaveChain_rest]
  exact hc

/-- The leaving of a job owes nothing by itself. -/
theorem State.owed_leaveLive {s : State} {i : SlotId} (h : (s.leaveLive i).ports = s.ports) (x : Port) :
    (s.leaveLive i).owed x = s.owed x := by
  refine State.owed_congr (by rw [State.port, h]; rfl) (fun j => ?_) (fun e => ?_) fun k => ?_
  · by_cases hj : j = i
    · subst hj; rw [State.leaveLive_slot_self]; exact ⟨rfl, rfl⟩
    · rw [State.leaveLive_slot_of_ne s hj]; exact ⟨rfl, rfl⟩
  · rw [State.leaveLive_chain]
    split <;> exact ⟨rfl, rfl⟩
  · rw [State.leaveLive_rest]
    exact ⟨rfl, rfl⟩

theorem State.room_leaveLive {s : State} {i : SlotId} (h : (s.leaveLive i).ports = s.ports) (x : Port) :
    (s.leaveLive i).room x = s.room x := by
  rw [State.room, State.owed_leaveLive h, State.queueRoom, State.port, h]
  rfl

theorem FinishStatus.breaks_iff (st : FinishStatus) : st.breaks = true ↔ st = .failed ∨ st = .expired := by
  cases st <;> simp [FinishStatus.breaks]

/-- Without a strict chain to break, a finish goes on from the leaving to the completion action (R96). -/
theorem State.finishJob_of_not_breaks {s : State} {i : SlotId} {st : FinishStatus}
    (h : ∀ e : ChainId, s.inChain i = some e → (s.chain e).strict = true → st ≠ .failed ∧ st ≠ .expired) :
    s.finishJob i st = (s.leaveLive i).finishTail i st := by
  unfold State.finishJob
  dsimp only
  split
  next hb =>
    unfold State.breakIfStrict
    split
    next e he =>
      have hs : ((s.leaveLive i).chain e).strict = (s.chain e).strict := by rw [State.leaveLive_chain, if_pos he]
      have hkept : ¬ ((s.leaveLive i).chain e).strict = true := fun hstrict => by
        obtain ⟨hf, hx⟩ := h e he (hs.symm.trans hstrict)
        exact (st.breaks_iff.mp hb).elim hf hx
      rw [if_neg hkept]
    next => rfl
  next => rfl

/-! ### The completion action (R97) -/

theorem When.applies_iff (w : When) (st : FinishStatus) : w.applies st = true ↔ w = .anyFinish ∨ st = .success := by
  cases w with
  | successOnly => exact ⟨fun h => .inr (eq_of_beq h), fun h => beq_iff_eq.mpr (h.resolve_left nofun)⟩
  | anyFinish => exact ⟨fun _ => .inl rfl, fun _ => rfl⟩

theorem State.applyAction_none {s : State} {i : SlotId} (st : FinishStatus) (h : (s.job i).action = none) :
    s.applyAction i st = s := by
  simp only [State.applyAction, h]

/-- A completion action that its status hands over is a combine (R97). -/
theorem State.applyAction_some {s : State} {i : SlotId} {a : Action} (st : FinishStatus)
    (h : (s.job i).action = some a) :
    s.applyAction i st = if a.when = .anyFinish ∨ st = .success then s.applyCombine a.flag a.fn a.operand a.mask
      else s := by
  simp only [State.applyAction, h, When.applies_iff]

/-! ### The report or the release (R98, R11) -/

/-- The DONE record of a job that finishes with status `st` (R98). -/
def Slot.doneWith (sl : Slot) (st : FinishStatus) : Slot :=
  { sl with state := .done, checkOk := true, job := { sl.job with finish := some st } }

section
variable {s : State} {i : SlotId}

/-- Of the port records a release changes what the end of the job's count does (R10, R11). -/
theorem State.release_port (hq : (s.slot i).state ≠ .quarantined) (x : Port) :
    (s.release i).port x = (s.endCount i).port x := by
  rw [State.release, if_neg hq]
  rfl

variable (st : FinishStatus)

theorem State.record_reports (h : (s.job i).report = true) :
    s.record i st = (s.writeSlot i fun sl => sl.doneWith st).tellProducer i (.jobDone st (s.job i).userCode) := by
  rw [State.record, if_pos h]
  rfl

theorem State.record_releases (h : (s.job i).report = false) : s.record i st = s.release i := by
  rw [State.record, if_neg (Bool.eq_false_iff.mp h)]

/-- The DONE record keeps its producer and its marks. -/
theorem State.writeSlot_doneWith_producer :
    ((s.writeSlot i fun sl => sl.doneWith st).job i).producer = (s.job i).producer := by
  rw [State.job, State.writeSlot_slot_self]
  rfl

/-- A job without a producer reaches no port with its record (R98, R11). -/
theorem State.record_ports (hq : (s.slot i).state ≠ .quarantined) (hp : (s.job i).producer = none) :
    (s.record i st).ports = s.ports := by
  cases h : (s.job i).report with
  | true =>
    rw [State.record_reports st h, State.tellProducer, State.writeSlot_doneWith_producer, hp]
    rfl
  | false =>
    rw [State.record_releases st h, State.release, if_neg hq, State.endCount, hp]
    rfl

/-- The record of a finish reaches no port but the producer (R98, R11). -/
theorem State.record_port_of_ne {r x : Port} (hq : (s.slot i).state ≠ .quarantined)
    (hp : (s.job i).producer = some r) (hx : x ≠ r) : (s.record i st).port x = s.port x := by
  cases h : (s.job i).report with
  | true =>
    rw [State.record_reports st h, State.tellProducer, State.writeSlot_doneWith_producer, hp]
    exact (State.notifyProducer_port _ i r _ x).2 hx
  | false =>
    rw [State.record_releases st h, State.release_port hq, State.endCount_port, hp,
      if_neg fun e => hx (Option.some.inj e).symm]

/-- A released job's count ends at its producer (R10, R11). -/
theorem State.record_count {r : Port} (hq : (s.slot i).state ≠ .quarantined) (hp : (s.job i).producer = some r)
    (h : (s.job i).report = false) :
    (s.record i st).port r = { s.port r with quotaCount := (s.port r).quotaCount - 1 } := by
  rw [State.record_releases st h, State.release_port hq, State.endCount_port, if_pos hp]

/-- A reported job is DONE, and its producer with room receives JOB_DONE (R98). -/
theorem State.record_done {r : Port} (hp : (s.job i).producer = some r) (h : (s.job i).report = true)
    (hd : (s.port r).state ≠ .down) (hr : s.room r = true) :
    (s.record i st).slot i = (s.slot i).doneWith st
      ∧ (s.record i st).port r = { s.port r with
          queue := (s.port r).queue ++ [.jobDone (s.handle i) st (s.job i).userCode] } := by
  have hroom : (s.writeSlot i fun sl => sl.doneWith st).room r = true := by
    rw [State.room, State.owed_writeSlot s i _ r ⟨rfl, rfl⟩]
    exact hr
  have hhandle : (s.writeSlot i fun sl => sl.doneWith st).handle i = s.handle i := by
    rw [State.handle, State.writeSlot_slot_self]
    rfl
  have htold : s.record i st = (s.writeSlot i fun sl => sl.doneWith st).enqueue r
      (.jobDone (s.handle i) st (s.job i).userCode) := by
    rw [State.record_reports st h, State.tellProducer, State.writeSlot_doneWith_producer, hp, ← hhandle]
    exact State.notify_room _ _ hd hroom
  rw [htold, State.enqueue_slot, State.writeSlot_slot_self, State.enqueue_port, if_pos rfl]
  exact ⟨rfl, rfl⟩

/-- What the record of a finish does at the job's producer, and that it reaches no other port (R98, R10, R11). -/
theorem State.record_producer (hq : (s.slot i).state ≠ .quarantined) :
    ((s.job i).producer = none → (s.record i st).ports = s.ports)
      ∧ ∀ r : Port, (s.job i).producer = some r → (∀ x : Port, x ≠ r → (s.record i st).port x = s.port x)
        ∧ ((s.job i).report = true → (s.port r).state ≠ .down → s.room r = true →
          (s.record i st).slot i = (s.slot i).doneWith st
          ∧ (s.record i st).port r = { s.port r with
              queue := (s.port r).queue ++ [.jobDone (s.handle i) st (s.job i).userCode] })
        ∧ ((s.job i).report = false →
          (s.record i st).port r = { s.port r with quotaCount := (s.port r).quotaCount - 1 }) :=
  ⟨State.record_ports st hq, fun _ hp => ⟨fun _ => State.record_port_of_ne st hq hp, State.record_done st hp,
    State.record_count st hq hp⟩⟩

end

/-- Settles O43: the leaving gives the queues and lists, the completion action the words, and the record of the
finish the slot and the producer's port. -/
theorem finishedJobIsReportedOrReleased : Obligations.FinishedJobIsReportedOrReleased := by
  unfold Obligations.FinishedJobIsReportedOrReleased
  intro s i st
  dsimp only
  intro hlive hstrict
  have hports : (s.leaveLive i).ports = s.ports := State.leaveLive_ports fun ha =>
    (hlive.resolve_left (by rw [ha]; exact nofun)).2
  have hport (x : Port) : (s.leaveLive i).port x = s.port x := by rw [State.port, hports]; rfl
  have hroom := State.room_leaveLive hports
  have hvjob : (s.leaveLive i).job i = (s.slot i).leftLive.job := congrArg Slot.job (s.leaveLive_slot_self i)
  rw [State.finishJob_of_not_breaks hstrict, State.finishTail]
  generalize hw : (s.leaveLive i).applyAction i st = w
  have hwslot : w.slot i = (s.slot i).leftLive := by
    rw [← hw, State.applyAction_slot, State.leaveLive_slot_self]
  have hwjob : w.job i = (s.slot i).leftLive.job := congrArg Slot.job hwslot
  have hwhandle : w.handle i = s.handle i := by rw [State.handle, hwslot]; rfl
  have hwq : (w.slot i).state ≠ .quarantined := by
    rw [hwslot]
    show (s.slot i).state ≠ _
    obtain h | ⟨h | h, -⟩ := hlive <;> rw [h] <;> exact nofun
  have hrest := w.record_rest i st
  have told := State.record_producer st hwq
  rw [hwslot, hwjob, hwhandle] at told
  have hwrest := (s.leaveLive i).applyAction_rest i st
  rw [hw] at hwrest
  refine ⟨fun c => ?_, fun e => ?_, fun j hj => ?_, ?_, ?_, fun hrep => ?_, fun hact => ?_, fun a hact => ?_⟩
  · rw [← State.job, ← State.leaveLive_classQueue, hrest, hwrest]
    rfl
  · rw [← State.leaveLive_chain, hrest, hwrest]
    rfl
  · rw [State.record_slot_of_ne _ _ hj, ← hw, State.applyAction_slot, State.leaveLive_slot_of_ne s hj]
  · rw [hrest, hwrest, State.leaveLive_rest]
  · rw [hrest, hwrest, State.leaveLive_rest]
  · rw [State.record_releases st (by rw [hwjob]; exact hrep), State.release_slot, if_pos rfl, hwslot]
    rfl
  · have hwv : w = s.leaveLive i := hw.symm.trans (State.applyAction_none st (hvjob ▸ hact))
    simp only [hwv, hport, hroom, hports] at told
    refine ⟨?_, ?_, hwv ▸ told⟩
    · rw [hrest, hwv, State.leaveLive_rest]
    · rw [hrest, hwv, State.leaveLive_rest]
  · have happly := State.applyAction_some st (hvjob ▸ hact : ((s.leaveLive i).job i).action = some a)
    rw [← happly, hw]
    refine ⟨?_, told⟩
    rw [hrest, ← hw, happly]
    split
    · rw [State.applyCombine_rest, State.leaveLive_rest]
      rfl
    · rw [State.leaveLive_rest]

end Sys2Proof.Machine
end

section
/-! PROOFS. The close of an event (R99): the chain entries and slots it frees (R35, R12, R9), and which drains it ends
(R153). -/

namespace Sys2Proof.Machine

/-! ### One change for each record of a list -/

/-- A fold whose step changes the record it names, and no other record, changes each record of the list once. -/
theorem foldl_reads {σ ι α : Type} [DecidableEq ι] {f : σ → ι → σ} {read : σ → ι → α} {g : α → α}
    (hf : ∀ s i j, read (f s i) j = if j = i then g (read s j) else read s j) (l : List ι) (hl : l.Nodup) (s : σ)
    (j : ι) : read (l.foldl f s) j = if j ∈ l then g (read s j) else read s j := by
  induction l generalizing s with
  | nil => rfl
  | cons i l ih =>
    obtain ⟨hi, hl⟩ := List.nodup_cons.mp hl
    rw [List.foldl_cons, ih hl, hf]
    by_cases hj : j = i
    · subst hj
      rw [if_neg hi, if_pos rfl, if_pos List.mem_cons_self]
    · simp [hj]

/-! ### Chain entries at the close (R35) -/

/-- An entry at the close: freed when it is emptied, and OPEN or keyed to none (R35). -/
def ChainEntry.atClose (c : ChainEntry) : ChainEntry :=
  if c.list = [] ∧ (c.state = .isOpen ∨ c.state = .broken ∧ c.owner = none) then ChainEntry.cleared else c

theorem closeChain_chain (s : State) (e x : ChainId) :
    (closeChain s e).chain x = if x = e then (s.chain x).atClose else s.chain x := by
  have hiff : ((s.chain e).list.isEmpty
      && ((s.chain e).state == .isOpen || (s.chain e).state == .broken && (s.chain e).owner.isNone)) = true
      ↔ (s.chain e).list = [] ∧ ((s.chain e).state = .isOpen
        ∨ (s.chain e).state = .broken ∧ (s.chain e).owner = none) := by simp
  unfold closeChain ChainEntry.atClose
  dsimp only
  split
  next h =>
    rw [State.modChain_chain]
    split
    next hx => subst hx; rw [if_pos (hiff.mp h)]
    next => rfl
  next h =>
    split
    next hx => subst hx; rw [if_neg (mt hiff.mpr h)]
    next => rfl

theorem closeChain_rest (s : State) (e : ChainId) : closeChain s e = { s with chains := (closeChain s e).chains } := by
  unfold closeChain
  dsimp only
  split <;> rfl

/-- The close of the chain entries (R35). -/
def State.closeChains (s : State) : State := allChains.foldl closeChain s

theorem State.closeChains_chain (s : State) (e : ChainId) : s.closeChains.chain e = (s.chain e).atClose :=
  (foldl_reads closeChain_chain allChains (List.nodup_finRange 64) s e).trans (if_pos (List.mem_finRange e))

theorem State.closeChains_rest (s : State) : s.closeChains = { s with chains := s.closeChains.chains } := by
  unfold State.closeChains
  generalize allChains = l
  exact foldl_keeps (P := fun t : State => t = { s with chains := t.chains })
    (fun t e ht => by rw [closeChain_rest, ht]) l rfl

theorem State.closeChains_slot (s : State) (i : SlotId) : s.closeChains.slot i = s.slot i := by
  rw [State.slot, State.closeChains_rest, State.slot]

theorem State.closeChains_freeList (s : State) : s.closeChains.freeList = s.freeList := by
  rw [State.closeChains_rest]

theorem State.closeChains_port (s : State) (p : Port) : s.closeChains.port p = s.port p := by
  rw [State.port, State.closeChains_rest, State.port]

theorem State.closeSlots_chain (s : State) (e : ChainId) : s.closeSlots.chain e = s.chain e := by
  rw [State.chain, State.closeSlots_rest, State.chain]

theorem State.closeSlots_port (s : State) (p : Port) : s.closeSlots.port p = s.port p := by
  rw [State.port, State.closeSlots_rest, State.port]

theorem State.closeSlots_closeChains_rest (s : State) :
    s.closeChains.closeSlots = { s with
      chains := s.closeChains.closeSlots.chains, slots := s.closeChains.closeSlots.slots
      freeList := s.closeChains.closeSlots.freeList } := by
  have hchains := s.closeChains_rest
  generalize s.closeChains = t at *
  have hslots := t.closeSlots_rest
  generalize t.closeSlots = u at *
  rw [hslots, hchains]

/-- The state in which the close looks for drains that can end (R99). -/
theorem State.close_eq (s : State) : s.close = [0, 1, 2, 3].foldl closeDrain s.closeChains.closeSlots := by
  have hports : allPorts = [0, 1, 2, 3] := by decide
  rw [State.close, hports, State.closeChains]

/-! ### When a drain ends (R153) -/

/-- A drain of the port that has nothing left (R153). -/
def State.Drained (s : State) (p : Port) : Prop :=
  (s.port p).state = .leaving ∧ (s.port p).departure = none ∧ (s.port p).workingSet = [] ∧ s.produced p = []
    ∧ (s.port p).scan = none

theorem State.drainOver_iff (s : State) (p : Port) : s.drainOver p = true ↔ s.Drained p := by
  simp [State.drainOver, State.Drained, State.departing, and_assoc]

theorem closeDrain_of_drained {s : State} {p : Port} (h : s.Drained p) : closeDrain s p = s.endDrain p :=
  if_pos ((s.drainOver_iff p).mpr h)

theorem closeDrain_of_not_drained {s : State} {p : Port} (h : ¬ s.Drained p) : closeDrain s p = s :=
  if_neg (mt (s.drainOver_iff p).mp h)

/-- A slot that is freed at the close held no job. -/
theorem State.produced_closeSlots (s : State) (p : Port) : s.closeSlots.produced p = s.produced p := by
  refine List.filter_congr fun i _ => ?_
  rw [State.job, State.closeSlots_slot]
  split
  next h => simp only [h.1]; rfl
  next => rfl

/-- The freeing of entries and slots ends no drain and starts none. -/
theorem State.drained_closeSlots (s : State) (p : Port) : s.closeChains.closeSlots.Drained p ↔ s.Drained p := by
  have hprod : s.closeChains.produced p = s.produced p := by
    simp only [State.produced, State.job, State.closeChains_slot]
  rw [State.Drained, State.produced_closeSlots, State.closeSlots_port, State.closeChains_port, hprod, State.Drained]

/-- Without a drain to end, the close frees entries and slots alone (R99). -/
theorem State.close_of_not_drained {s : State} (h : ∀ p, ¬ s.Drained p) : s.close = s.closeChains.closeSlots :=
  foldl_keeps (P := fun t => t = s.closeChains.closeSlots)
    (fun t p ht => by rw [ht, closeDrain_of_not_drained (mt (s.drained_closeSlots p).mp (h p))]) _ rfl

end Sys2Proof.Machine
end

section
/-! PROOFS. The end of a drain (R153), but for its notice: what orphan handling of a port without jobs, the freeing of
its watches and the clearing of its record leave. -/

namespace Sys2Proof.Machine

/-! ### Orphan handling of a port without jobs (R109) -/

/-- A chain entry without port `p`: its key, under KEEP in an OPEN entry, or the entry itself is cleared (R109). -/
def ChainEntry.withoutPort (c : ChainEntry) (p : Port) (o : OrphanPolicy) : ChainEntry :=
  if c.state ≠ .free ∧ c.owner = some p then
    if c.state = .isOpen ∧ o = .keep then { c with owner := none } else ChainEntry.cleared
  else c

/-- A slot whose record, in quarantine, names port `p` no more (R16, R109). -/
def Slot.withoutPort (sl : Slot) (p : Port) : Slot :=
  if sl.state = .quarantined then
    { sl with job := { sl.job with
        producer := if sl.job.producer = some p then none else sl.job.producer
        lostHolder := if sl.job.lostHolder = some p then none else sl.job.lostHolder } }
  else sl

/-- A quarantined slot keeps its marks. -/
theorem Slot.withoutPort_owesProducer (sl : Slot) (p x : Port) :
    (sl.withoutPort p).owesProducer x = sl.owesProducer x := by
  unfold Slot.withoutPort
  split <;> rfl

theorem Slot.withoutPort_owesConsumer (sl : Slot) (p x : Port) :
    (sl.withoutPort p).owesConsumer x = sl.owesConsumer x := by
  unfold Slot.withoutPort
  split <;> rfl

/-- An entry without the port owes it nothing, where a FREE entry owes nothing. -/
theorem ChainEntry.not_owes_withoutPort {c : ChainEntry} {p : Port} (o : OrphanPolicy)
    (hfree : c.state = .free → c.owed = none) : ¬ (c.withoutPort p o).owes p = true := by
  unfold ChainEntry.withoutPort
  split
  · split
    · simp [ChainEntry.owes]
    · simp [ChainEntry.owes, ChainEntry.cleared]
  next hno =>
    intro ho
    simp only [ChainEntry.owes, Bool.and_eq_true, beq_iff_eq] at ho
    by_cases hs : c.state = .free
    · simp [hfree hs] at ho
    · exact hno ⟨hs, ho.2⟩

theorem orphanChain_chain (p : Port) (o : OrphanPolicy) (a : State × DepCounts) (e x : ChainId) :
    (orphanChain p o a e).1.chain x = if x = e then (a.1.chain x).withoutPort p o else a.1.chain x := by
  have hkeyed : ((a.1.chain e).state != .free && (a.1.chain e).owner == some p) = true
      ↔ (a.1.chain e).state ≠ .free ∧ (a.1.chain e).owner = some p := by simp
  unfold orphanChain ChainEntry.withoutPort
  dsimp only
  split
  next h =>
    by_cases hx : x = e
    · subst hx
      rw [if_pos rfl, if_pos (hkeyed.mp h)]
      dsimp only
      split
      next hs => rw [if_pos ⟨hs, rfl⟩, State.modChain_chain_self]
      next hno => rw [if_neg fun hk => hno hk.1 hk.2, State.modChain_chain_self]
    · rw [if_neg hx]
      dsimp only
      split <;> exact State.modChain_chain_of_ne _ e x _ hx
  next h =>
    split
    next hx => subst hx; rw [if_neg (mt hkeyed.mpr h)]
    next => rfl

theorem orphanChain_rest (p : Port) (o : OrphanPolicy) (a : State × DepCounts) (e : ChainId) :
    (orphanChain p o a e).1 = { a.1 with chains := (orphanChain p o a e).1.chains } := by
  unfold orphanChain
  dsimp only
  split
  · dsimp only; split <;> rfl
  · rfl

theorem clearQuarantined_slot (p : Port) (s : State) (i j : SlotId) :
    (clearQuarantined p s i).slot j = if j = i then (s.slot j).withoutPort p else s.slot j := by
  unfold clearQuarantined Slot.withoutPort
  by_cases hj : j = i
  · subst hj
    split <;> simp
  · rw [if_neg hj]
    split
    · exact s.modSlot_slot_of_ne i j _ hj
    · rfl

theorem clearQuarantined_rest (p : Port) (s : State) (i : SlotId) :
    clearQuarantined p s i = { s with slots := (clearQuarantined p s i).slots } := by
  unfold clearQuarantined
  split <;> rfl

theorem foldl_orphanChain_chain (p : Port) (o : OrphanPolicy) (a : State × DepCounts) (e : ChainId) :
    (allChains.foldl (orphanChain p o) a).1.chain e = (a.1.chain e).withoutPort p o :=
  (foldl_reads (read := fun a : State × DepCounts => a.1.chain) (g := fun c => c.withoutPort p o)
    (orphanChain_chain p o) allChains (List.nodup_finRange 64) a e).trans (if_pos (List.mem_finRange e))

theorem foldl_orphanChain_rest (p : Port) (o : OrphanPolicy) (l : List ChainId) (a : State × DepCounts) :
    (l.foldl (orphanChain p o) a).1 = { a.1 with chains := (l.foldl (orphanChain p o) a).1.chains } :=
  foldl_keeps (P := fun b : State × DepCounts => b.1 = { a.1 with chains := b.1.chains })
    (fun b e hb => by rw [orphanChain_rest, hb]) l rfl

theorem foldl_clearQuarantined_slot (p : Port) (s : State) (i : SlotId) :
    (allSlots.foldl (clearQuarantined p) s).slot i = (s.slot i).withoutPort p :=
  (foldl_reads (read := State.slot) (g := fun sl => sl.withoutPort p) (clearQuarantined_slot p) allSlots
    (List.nodup_finRange 256) s i).trans (if_pos (List.mem_finRange i))

theorem foldl_clearQuarantined_rest (p : Port) (l : List SlotId) (s : State) :
    l.foldl (clearQuarantined p) s = { s with slots := (l.foldl (clearQuarantined p) s).slots } :=
  foldl_keeps (P := fun t : State => t = { s with slots := t.slots })
    (fun t i ht => by rw [clearQuarantined_rest, ht]) l rfl

/-- What the orphan handling of a port without jobs does: the entries keyed to it, and the quarantined slots, name it
no more (R109). -/
structure State.OrphansCleared (s t : State) (p : Port) (o : OrphanPolicy) : Prop where
  chain : ∀ e, t.chain e = (s.chain e).withoutPort p o
  slot : ∀ i, t.slot i = (s.slot i).withoutPort p
  rest : t = { s with slots := t.slots, chains := t.chains }

theorem State.orphanHandling_of_not_produced {s : State} {p : Port} (hp : s.produced p = []) (o : OrphanPolicy)
    (n : DepCounts) : s.OrphansCleared (s.orphanHandling p o n).1 p o := by
  unfold State.orphanHandling
  rw [foldl_orphanSlot_of_not_produced hp]
  dsimp only
  have hchain := foldl_orphanChain_chain p o (s, n)
  have hslots := foldl_orphanChain_slots p o allChains (s, n)
  have hchains := foldl_orphanChain_rest p o allChains (s, n)
  generalize (allChains.foldl (orphanChain p o) (s, n)).1 = t at *
  have hslot := foldl_clearQuarantined_slot p t
  have hrest := foldl_clearQuarantined_rest p allSlots t
  generalize allSlots.foldl (clearQuarantined p) t = u at *
  refine ⟨fun e => ?_, fun i => ?_, ?_⟩
  · rw [hrest]
    exact hchain e
  · rw [hslot, State.slot_eq_of_slots hslots]
  · rw [hrest, hchains]

/-! ### The port's watches (R127) -/

theorem State.freeWatches_watch (s : State) (p : Port) (k : WatchId) :
    (s.freeWatches p).watch k =
      if (s.watch k).state ≠ .free ∧ (s.watch k).owner = some p then Watch.cleared else s.watch k := by
  have hread := foldl_reads (f := fun (t : State) k => t.modWatch k fun _ => Watch.cleared) (read := State.watch)
    (g := fun _ => Watch.cleared) (fun t k x => t.modWatch_watch k x _) (s.watchesOf p)
    ((List.nodup_finRange 16).filter _) s k
  have hmem : k ∈ s.watchesOf p ↔ (s.watch k).state ≠ .free ∧ (s.watch k).owner = some p := by
    simp [State.watchesOf, allWatches]
  rw [State.freeWatches, State.modPort_watch, hread]
  simp only [hmem]

/-- Beyond its watches the port loses its latch, and nothing else changes. -/
theorem State.freeWatches_rest (s : State) (p : Port) : ∃ ws,
    s.freeWatches p = State.modPort { s with watches := ws } p fun r => { r with latch := none } := by
  have hrest := foldl_keeps (P := fun t : State => ∃ ws, t = { s with watches := ws })
    (f := fun t k => t.modWatch k fun _ => Watch.cleared)
    (fun t k ht => by obtain ⟨ws, rfl⟩ := ht; exact ⟨_, rfl⟩) (s.watchesOf p) ⟨s.watches, rfl⟩
  obtain ⟨ws, hws⟩ := hrest
  exact ⟨ws, by rw [State.freeWatches, hws]⟩

/-! ### The port's record (R153) -/

/-- The record of a port that a drain has left IDLE, but for its queue and its notice set (R153, R144). -/
def PortRec.drained (r : PortRec) : PortRec :=
  { r with
    state := .idle, departure := none, roles := Roles.absent, credits := 0, mask := 0, floor := 0
    missed := 0, stalled := false, latch := none, cursor := 0 }

/-- The port's watches are freed and its record is cleared (R153). -/
def State.clearPort (s : State) (p : Port) : State :=
  ((s.modPort p fun r => { r with missed := 0, stalled := false }).freeWatches p).modPort p fun r =>
    { r.endSession with cursor := 0, state := .idle }

theorem State.clearPort_watch (s : State) (p : Port) (k : WatchId) :
    (s.clearPort p).watch k =
      if (s.watch k).state ≠ .free ∧ (s.watch k).owner = some p then Watch.cleared else s.watch k := by
  rw [State.clearPort, State.modPort_watch, State.freeWatches_watch, State.modPort_watch]

theorem State.clearPort_rest (s : State) (p : Port) : ∃ ws,
    s.clearPort p = State.modPort { s with watches := ws } p PortRec.drained := by
  obtain ⟨ws, hws⟩ := (s.modPort p fun r => { r with missed := 0, stalled := false }).freeWatches_rest p
  have hswap (f : PortRec → PortRec) :
      { s.modPort p f with watches := ws } = State.modPort { s with watches := ws } p f := rfl
  refine ⟨ws, ?_⟩
  rw [State.clearPort, hws, hswap, State.modPort_modPort, State.modPort_modPort]
  rfl

/-- What a drain that ends leaves for LEFT to be passed in (R153). -/
structure State.SessionCleared (s t : State) (p : Port) : Prop where
  chain : ∀ e, t.chain e = (s.chain e).withoutPort p s.orphanPolicy
  slot : ∀ i, t.slot i = (s.slot i).withoutPort p
  watch : ∀ k, t.watch k =
    if (s.watch k).state ≠ .free ∧ (s.watch k).owner = some p then Watch.cleared else s.watch k
  port : ∀ x, t.port x = if x = p then (s.port p).drained else s.port x
  rest : t = { s with ports := t.ports, slots := t.slots, chains := t.chains, watches := t.watches }

theorem State.OrphansCleared.clearPort {s t : State} {p : Port} (h : s.OrphansCleared t p s.orphanPolicy) :
    s.SessionCleared (t.clearPort p) p := by
  obtain ⟨hchain, hslot, hrest⟩ := h
  have hport (y : Port) : t.port y = s.port y := by rw [hrest]; rfl
  have hwatch (k : WatchId) : t.watch k = s.watch k := by rw [hrest]; rfl
  have hclear := t.clearPort_watch p
  obtain ⟨ws, hws⟩ := t.clearPort_rest p
  rw [hws] at hclear ⊢
  refine ⟨hchain, hslot, fun k => ?_, fun x => ?_, ?_⟩
  · rw [hclear, hwatch]
  · rw [← hport x, ← hport p]
    exact State.modPort_port _ p x _
  · rw [hrest]
    rfl

end Sys2Proof.Machine
end

section
/-! PROOFS. LEFT, the notice that ends a drain (R153), and the statement about the close of an event. -/

namespace Sys2Proof.Machine

/-- A port notice reaches its port's queue or notice set alone (R131, R136). -/
theorem State.notifyPort_port (s : State) (p x : Port) (n : PortNotice) :
    (s.notifyPort p n).port x = { s.port x with
      queue := ((s.notifyPort p n).port x).queue, notices := ((s.notifyPort p n).port x).notices }
    ∧ (x ≠ p → (s.notifyPort p n).port x = s.port x) := by
  refine State.notify_elim (P := fun t => t.port x = { s.port x with
    queue := (t.port x).queue, notices := (t.port x).notices } ∧ (x ≠ p → t.port x = s.port x))
    ⟨rfl, fun _ => rfl⟩ ?_ ?_
  · rw [State.enqueue_port]
    split
    next e => subst e; exact ⟨rfl, fun h => absurd rfl h⟩
    next => exact ⟨rfl, fun _ => rfl⟩
  · rw [State.modPort_port]
    split
    next e => subst e; exact ⟨rfl, fun h => absurd rfl h⟩
    next => exact ⟨rfl, fun _ => rfl⟩

section
variable {s t : State} {p : Port}

theorem State.SessionCleared.not_owes_watch (h : s.SessionCleared t p) (k : WatchId) :
    ¬ (t.watch k).owes p = true := by
  rw [h.watch]
  split
  · simp [Watch.owes, Watch.cleared]
  next hno =>
    intro ho
    simp only [Watch.owes, Bool.and_eq_true, beq_iff_eq] at ho
    exact hno ⟨by rw [ho.1]; exact nofun, ho.2⟩

/-- What is still owed to the port is in its notice set and in slots: its chain entries and watches are gone. -/
theorem State.SessionCleared.owed_iff (h : s.SessionCleared t p)
    (hfree : ∀ e : ChainId, (s.chain e).state = .free → (s.chain e).owed = none) :
    t.owed p = true ↔ (s.port p).notices.any = true
      ∨ ∃ i : SlotId, (s.slot i).owesProducer p = true ∨ (s.slot i).owesConsumer p = true := by
  have hnotices : (t.port p).notices = (s.port p).notices := by rw [h.port, if_pos rfl]; rfl
  have hchains : ¬ ∃ e, (t.chain e).owes p = true := fun ⟨e, ho⟩ =>
    ChainEntry.not_owes_withoutPort s.orphanPolicy (hfree e) (h.chain e ▸ ho)
  have hwatches : ¬ ∃ k, (t.watch k).owes p = true := not_exists.mpr h.not_owes_watch
  simp only [State.owed_iff, hnotices, h.slot, Slot.withoutPort_owesProducer, Slot.withoutPort_owesConsumer, hchains,
    hwatches, or_false]

/-- LEFT joins the queue of a port with room, and is owed to it otherwise (R153, R131, R136). -/
theorem State.SessionCleared.left_port (h : s.SessionCleared t p)
    (hfree : ∀ e : ChainId, (s.chain e).state = .free → (s.chain e).owed = none) :
    let stillOwed := (s.port p).notices.any = true
      ∨ ∃ i : SlotId, (s.slot i).owesProducer p = true ∨ (s.slot i).owesConsumer p = true
    ((s.port p).queue.length < 32 → ¬ stillOwed →
      (t.notifyPort p .left).port p =
        { (s.port p).drained with queue := (s.port p).queue ++ [.portNotice .left] })
    ∧ (32 ≤ (s.port p).queue.length ∨ stillOwed →
      (t.notifyPort p .left).port p =
        { (s.port p).drained with notices := { (s.port p).notices with left := true } }) := by
  have hport : t.port p = (s.port p).drained := (h.port p).trans (if_pos rfl)
  have hup : (t.port p).state ≠ .down := by rw [hport]; exact nofun
  have hroom : t.room p = true ↔ (s.port p).queue.length < 32 ∧ ¬ t.owed p = true := by
    rw [State.room_iff, hport, Bool.not_eq_true]
    rfl
  rw [h.owed_iff hfree] at hroom
  rw [State.notifyPort]
  refine ⟨fun hlen howed => ?_, fun hfull => ?_⟩
  · rw [State.notify_room _ _ hup (hroom.mpr ⟨hlen, howed⟩), State.enqueue_port, if_pos rfl, hport]
    rfl
  · have hno : ¬ t.room p = true := fun hr => by
      obtain ⟨hlen, howed⟩ := hroom.mp hr
      exact hfull.elim (fun hge => absurd hlen (Nat.not_lt.mpr hge)) howed
    rw [State.notify, if_neg hup, if_neg hno, State.modPort_port_self, hport]
    rfl

/-- Beyond what the end of the session has cleared, a port notice reaches the port's queue or notice set alone. -/
theorem State.SessionCleared.notifyPort (h : s.SessionCleared t p) (n : PortNotice) :
    let u := t.notifyPort p n
    (∀ e, u.chain e = (s.chain e).withoutPort p s.orphanPolicy)
    ∧ (∀ i, u.slot i = (s.slot i).withoutPort p)
    ∧ (∀ k, u.watch k =
        if (s.watch k).state ≠ .free ∧ (s.watch k).owner = some p then Watch.cleared else s.watch k)
    ∧ u.port p = { (s.port p).drained with queue := (u.port p).queue, notices := (u.port p).notices }
    ∧ (∀ x, x ≠ p → u.port x = s.port x)
    ∧ u = { s with ports := u.ports, slots := u.slots, chains := u.chains, watches := u.watches } := by
  have hrest := t.notifyPort_rest p n
  have hport := fun x => t.notifyPort_port p x n
  dsimp only
  generalize t.notifyPort p n = u at *
  refine ⟨fun e => ?_, fun i => ?_, fun k => ?_, ?_, fun x hx => ?_, ?_⟩
  · rw [← h.chain, hrest]; rfl
  · rw [← h.slot, hrest]; rfl
  · rw [← h.watch, hrest]; rfl
  · rw [(hport p).1, h.port, if_pos rfl]
  · rw [(hport x).2 hx, h.port, if_neg hx]
  · rw [hrest, h.rest]

end

/-- Settles O45: the fold over entries and the fold over slots give the first part, and the end of a drain is
orphan handling of a port without jobs, the freeing of its watches, its record, and LEFT. -/
theorem closeOfAnEvent : Obligations.CloseOfAnEvent := by
  unfold Obligations.CloseOfAnEvent
  intro s
  dsimp only
  refine ⟨⟨s.closeChains.closeSlots, fun e => ?_, fun i => ?_, ?_, ?_, s.close_eq, State.close_of_not_drained⟩,
    fun p => ⟨closeDrain_of_not_drained, fun hd => ?_⟩⟩
  · rw [State.closeSlots_chain, State.closeChains_chain, ChainEntry.atClose]
  · rw [State.closeSlots_slot, State.closeChains_slot]
  · rw [State.closeSlots_freeList, State.closeChains_freeList]
    simp only [State.closeChains_slot]
  · exact s.closeSlots_closeChains_rest
  · rw [closeDrain_of_drained hd]
    obtain ⟨-, -, -, hp, -⟩ := hd
    have hcleared := (State.orphanHandling_of_not_produced hp s.orphanPolicy DepCounts.zero).clearPort
    obtain ⟨hchain, hslot, hwatch, hidle, hother, hrest⟩ := hcleared.notifyPort .left
    exact ⟨hchain, hslot, hwatch, hidle, hcleared.left_port, hother, hrest⟩

end Sys2Proof.Machine
end

section
/-! PROOFS. Flag words: the combine function (R112, R116), and what FLAG_READ and FLAG_COMBINE answer (R113, R115, R117,
R118). -/

namespace Sys2Proof.Machine

/-! ### The combine function (R116) -/

/-- The function of two words works bit by bit. -/
theorem CombineFn.getLsbD_apply (fn : CombineFn) (old operand : Word) (k : Nat) :
    (fn.apply old operand).getLsbD k =
      match fn with
      | .replace => operand.getLsbD k
      | .and => old.getLsbD k && operand.getLsbD k
      | .or => old.getLsbD k || operand.getLsbD k
      | .xor => old.getLsbD k != operand.getLsbD k := by
  cases fn with
  | replace => rfl
  | and => exact BitVec.getLsbD_and
  | or => exact BitVec.getLsbD_or
  | xor => exact BitVec.getLsbD_xor

section
variable (fn : CombineFn) (old operand mask : Word)

theorem combine_getLsbD {k : Nat} (hk : k < 32) : (combine fn old operand mask).getLsbD k =
    if mask.getLsbD k then (fn.apply old operand).getLsbD k else old.getLsbD k := by
  have hbit : (combine fn old operand mask).getLsbD k =
      (old.getLsbD k && !mask.getLsbD k || (fn.apply old operand).getLsbD k && mask.getLsbD k) := by
    simp [combine, hk]
  rw [hbit]
  cases mask.getLsbD k <;> simp

theorem combine_full_mask : combine fn old operand 0xFFFFFFFF = fn.apply old operand := by
  have hones : (0xFFFFFFFF : Word) = BitVec.allOnes 32 := rfl
  rw [combine, hones, BitVec.not_allOnes, BitVec.and_zero, BitVec.zero_or, BitVec.and_allOnes]

theorem combine_zero_mask : combine fn old operand 0 = old := by
  rw [combine, BitVec.ofNat_eq_ofNat, BitVec.not_zero, BitVec.and_allOnes, BitVec.and_zero, BitVec.or_zero]

/-- The words after an applied combine (R112). -/
theorem State.applyCombine_words (s : State) (f : FlagId) :
    (s.applyCombine f fn operand mask).words = s.words.set f (combine fn (s.flagWord f) operand mask) := by
  rw [State.applyCombine_rest]

end

/-- Settles O46: `combine` selects by the mask between the old bit and the function's, and a FLAG_COMBINE and a
completion action write its result alone. -/
theorem combineReplacesMaskedBits : Obligations.CombineReplacesMaskedBits := by
  unfold Obligations.CombineReplacesMaskedBits
  intro fn old operand mask
  refine ⟨fun k hk => ?_, combine_full_mask fn old operand, combine_zero_mask fn old operand,
    fun s f hold => ?_, fun s i f w st hold hact happ => ?_⟩
  · have hbit := combine_getLsbD fn old operand mask hk
    rw [CombineFn.getLsbD_apply] at hbit
    exact hbit
  · rw [State.applyCombine_words, hold]
  · rw [State.applyAction_some st hact, if_pos happ, State.applyCombine_words, hold]

/-! ### What a FLAG_COMBINE does with its word (R118) -/

/-- The evaluation of watches writes no flag word. -/
theorem State.evalWatches_words (s : State) (f : FlagId) (v : Word) : (s.evalWatches f v).words = s.words :=
  foldl_keeps (P := fun t : State => t.words = s.words)
    (fun t k ht => by split; exacts [by rw [State.evalWatch_rest, ht], ht]) allWatches rfl

/-- The word that an applied combine leaves is its result, which the latch then takes. -/
theorem State.applyCombine_flagWord (s : State) (f : FlagId) (fn : CombineFn) (operand mask : Word) :
    (s.applyCombine f fn operand mask).flagWord f = combine fn (s.flagWord f) operand mask := by
  simp [State.flagWord, State.applyCombine_words]

/-- The state after the combine of `c` with operand `x` has written its word, evaluated the word's watches and
reloaded the latch of port `p` (R118). -/
def State.combined (s : State) (p : Port) (c : CombineParams) (x : Word) : State :=
  let v := combine c.fn (s.flagWord c.flag) x c.mask
  ({ s with words := s.words.set c.flag v }.evalWatches c.flag v).loadLatch p c.flag v

theorem State.flagCombine_applied {s : State} {p : Port} {c : CombineParams}
    (h : c.appliesTo (s.flagWord c.flag) (s.port p).latch = true) :
    s.flagCombine p c = s.combined p c (c.operandOf (s.port p).latch) := by
  rw [State.flagCombine, if_pos h, State.applyCombine_flagWord]
  rfl

theorem State.flagCombine_not_applied {s : State} {p : Port} {c : CombineParams}
    (h : c.appliesTo (s.flagWord c.flag) (s.port p).latch = false) :
    s.flagCombine p c = s.loadLatch p c.flag (s.flagWord c.flag) := by
  rw [State.flagCombine, h, if_neg Bool.false_ne_true]

/-- Without LATCH_EQUAL a combine always applies (R118 step 3). -/
theorem CombineParams.appliesTo_always {c : CombineParams} (h : c.latchEqual = false) (old : Word)
    (latch : Option (FlagId × Word)) : c.appliesTo old latch = true := by simp [CombineParams.appliesTo, h]

/-- With LATCH_EQUAL it applies where the word agrees with the latch under the care mask (R118 step 3). -/
theorem CombineParams.appliesTo_latchEqual {c : CombineParams} (h : c.latchEqual = true) (old : Word) (l : FlagId)
    (v : Word) : c.appliesTo old (some (l, v)) = (old &&& c.care == v &&& c.care) := by
  simp [CombineParams.appliesTo, h, equalUnder]

/-! ### What FLAG_READ and FLAG_COMBINE answer (R115, R117, R118) -/

@[simp] theorem State.received_latch (s : State) (p x : Port) (q : Seq) (ps : List Byte) :
    ((s.received p q ps).port x).latch = (s.port x).latch := by
  rw [State.received_port]
  split
  next h => rw [h]
  next => rfl

section
variable {s : State} {p : Port} {ps : List Byte} (ha : s.admits p inSession = true)
include ha

theorem flagReadBody_of {f : FlagId} (hp : parseFin 64 ps = some f) :
    flagReadBody p ps s = accepted (num1 f.val ++ wordBytes (s.flagWord f)) (s.loadLatch p f (s.flagWord f)) := by
  simp [flagReadBody, ha, hp]

variable {c : CombineParams} (hp : parseCombine ps = some c)
include hp

theorem flagCombineBody_unfit (hfit : latchFits c (s.port p).latch = false) :
    flagCombineBody p ps s = refuse .wrongState s := by simp [flagCombineBody, ha, hp, hfit]

theorem flagCombineBody_applied (hfit : latchFits c (s.port p).latch = true)
    (happ : c.appliesTo (s.flagWord c.flag) (s.port p).latch = true) :
    flagCombineBody p ps s = accepted (wordBytes (s.flagWord c.flag) ++ [1])
      (s.combined p c (c.operandOf (s.port p).latch)) := by
  simp [flagCombineBody, ha, hp, hfit, happ, State.flagCombine_applied happ, yesNo]

theorem flagCombineBody_not_applied (hfit : latchFits c (s.port p).latch = true)
    (happ : c.appliesTo (s.flagWord c.flag) (s.port p).latch = false) :
    flagCombineBody p ps s = accepted (wordBytes (s.flagWord c.flag) ++ [0])
      (s.loadLatch p c.flag (s.flagWord c.flag)) := by
  simp [flagCombineBody, ha, hp, hfit, happ, State.flagCombine_not_applied happ, yesNo]

end

/-- Settles O47: FLAG_COMBINE's steps split by the port's latch, which decides whether it fits, what the operand is
and whether the combine applies. -/
theorem flagReadAndCombine : Obligations.FlagReadAndCombine := by
  unfold Obligations.FlagReadAndCombine
  intro s p q ps htakes hadmits
  dsimp only
  have hread : exec (.flagRead p q ps) s = .next (finishTaken p (flagReadBody p ps (s.received p q ps))) :=
    congrArg _ (hostFrame_takes _ htakes)
  have hcombine : exec (.flagCombine p q ps) s = .next (finishTaken p (flagCombineBody p ps (s.received p q ps))) :=
    congrArg _ (hostFrame_takes _ htakes)
  have hword := s.received_flagWord p q ps
  rw [← State.received_admits s p p q ps] at hadmits
  simp only [hread, hcombine, ← hword, ← State.received_latch s p p q ps]
  generalize s.received p q ps = u at *
  refine ⟨fun f hps => ?_, fun c hp => ⟨fun hnone => ⟨fun hneeds => ?_, fun hsrc hcond => ?_⟩,
    fun l v hsome => ⟨fun hcond hl => ?_, fun hcond => ?_, fun hcond hl => ⟨fun heq => ?_, fun hne => ?_⟩⟩⟩⟩
  · rw [flagReadBody_of hadmits (by rw [hps]; exact parseFin_num1 (by decide) f)]
    rfl
  · have hfit : latchFits c (u.port p).latch = false := by
      rw [hnone]
      obtain h | h := hneeds <;> simp [latchFits, h]
    rw [flagCombineBody_unfit hadmits hp hfit, finishTaken_refuse]
  · have hfit : latchFits c (u.port p).latch = true := by simp [latchFits, hnone, hsrc, hcond]
    rw [flagCombineBody_applied hadmits hp hfit (CombineParams.appliesTo_always hcond _ _), hnone]
    rfl
  · have hfit : latchFits c (u.port p).latch = false := by simp [latchFits, hsome, hcond, hl]
    rw [flagCombineBody_unfit hadmits hp hfit, finishTaken_refuse]
  · have hfit : latchFits c (u.port p).latch = true := by simp [latchFits, hsome, hcond]
    rw [flagCombineBody_applied hadmits hp hfit (CombineParams.appliesTo_always hcond _ _), hsome]
    rfl
  · have hfit : latchFits c (u.port p).latch = true := by simp [latchFits, hsome, hl]
    have happ : c.appliesTo (u.flagWord c.flag) (u.port p).latch = true := by
      rw [hsome, CombineParams.appliesTo_latchEqual hcond, beq_iff_eq.mpr heq]
    rw [flagCombineBody_applied hadmits hp hfit happ, hsome]
    rfl
  · have hfit : latchFits c (u.port p).latch = true := by simp [latchFits, hsome, hl]
    have happ : c.appliesTo (u.flagWord c.flag) (u.port p).latch = false := by
      rw [hsome, CombineParams.appliesTo_latchEqual hcond, beq_eq_false_iff_ne.mpr hne]
    rw [flagCombineBody_not_applied hadmits hp hfit happ]
    rfl

end Sys2Proof.Machine
end

section
/-! PROOFS. Watches: one evaluation of an entry by its mode (R123, R124), and the evaluation of the ARMED entries on a
word. -/

namespace Sys2Proof.Machine

/-! ### One evaluation (R123, R124) -/

theorem State.modWatch_self (s : State) (k : WatchId) {f : Watch → Watch} (h : f (s.watch k) = s.watch k) :
    s.modWatch k f = s := by
  rw [State.modWatch, h]
  simp [State.watch]

theorem State.modWatch_congr (s : State) (k : WatchId) {f g : Watch → Watch} (h : f (s.watch k) = g (s.watch k)) :
    s.modWatch k f = s.modWatch k g := by rw [State.modWatch, State.modWatch, h]

/-- Value `v` matches the watch: they agree under its care mask (R123). -/
def Watch.Fits (w : Watch) (v : Word) : Prop := v &&& w.care = w.pattern &&& w.care

theorem Watch.matchesValue_iff (w : Watch) (v : Word) : w.matchesValue v = true ↔ w.Fits v := beq_iff_eq

theorem Watch.matchesValue_eq_false_iff (w : Watch) (v : Word) : w.matchesValue v = false ↔ ¬ w.Fits v :=
  beq_eq_false_iff_ne

/-- A hit is a match, and in PERSIST mode the first of a run of matches (R123). -/
theorem Watch.hits_iff (w : Watch) (v : Word) :
    w.hits v = true ↔ w.Fits v ∧ (w.mode = .persist → w.lastMatched = false) := by
  rw [← Watch.matchesValue_iff]
  cases hm : w.mode <;> simp [Watch.hits, hm]

section
variable {s : State} {k : WatchId} {v : Word}

theorem State.evalWatch_hit (h : (s.watch k).hits v = true) : s.evalWatch k v = s.watchHit k v := if_pos h

/-- An evaluation that is no hit records in PERSIST mode whether the value matched (R123). -/
theorem State.evalWatch_no_hit (h : ¬ (s.watch k).hits v = true) :
    s.evalWatch k v = s.modWatch k fun w =>
      match w.mode with
      | .once => w
      | .persist => { w with lastMatched := w.matchesValue v } := if_neg h

theorem State.evalWatch_once_miss (hm : (s.watch k).mode = .once) (hf : ¬ (s.watch k).Fits v) :
    s.evalWatch k v = s := by
  rw [State.evalWatch_no_hit fun h => hf ((Watch.hits_iff _ _).mp h).1]
  exact s.modWatch_self k (by simp only [hm])

theorem State.evalWatch_persist_miss (hm : (s.watch k).mode = .persist) (hf : ¬ (s.watch k).Fits v) :
    s.evalWatch k v = s.modWatch k fun w => { w with lastMatched := false } := by
  rw [State.evalWatch_no_hit fun h => hf ((Watch.hits_iff _ _).mp h).1]
  exact s.modWatch_congr k (by simp only [hm, (Watch.matchesValue_eq_false_iff _ _).mpr hf])

theorem State.evalWatch_persist_again (hm : (s.watch k).mode = .persist) (hf : (s.watch k).Fits v)
    (hlast : (s.watch k).lastMatched = true) : s.evalWatch k v = s := by
  rw [State.evalWatch_no_hit fun h => by simp [((Watch.hits_iff _ _).mp h).2 hm] at hlast]
  refine s.modWatch_self k ?_
  rw [(Watch.matchesValue_iff _ _).mpr hf, ← hlast]
  split <;> rfl

section
variable {p : Port} (ho : (s.watch k).owner = some p) (hd : (s.port p).state ≠ .down)
include ho hd

/-- A hit with room for it is queued (R124). -/
theorem State.watchHit_room (hr : s.room p = true) :
    s.watchHit k v = (s.enqueue p (.watchHit k (s.watch k).flag v)).modWatch k fun w =>
      match w.mode with
      | .once => Watch.cleared
      | .persist => { w with lastMatched := true } := by
  simp only [State.watchHit, ho, State.notify_room _ _ hd hr]
  exact if_neg fun h => by simp [hr] at h

/-- A hit without room is owed by its entry (R124). -/
theorem State.watchHit_full (hr : s.room p = false) :
    s.watchHit k v = s.modWatch k fun w =>
      { w with state := .pending, held := some v, lastMatched := w.mode == .persist || w.lastMatched } := by
  simp only [State.watchHit, ho]
  exact if_pos ⟨hd, hr⟩

theorem State.evalWatch_once_room (hm : (s.watch k).mode = .once) (hf : (s.watch k).Fits v)
    (hr : s.room p = true) :
    s.evalWatch k v = (s.enqueue p (.watchHit k (s.watch k).flag v)).modWatch k fun _ => Watch.cleared := by
  rw [State.evalWatch_hit ((Watch.hits_iff _ _).mpr ⟨hf, by simp [hm]⟩), State.watchHit_room ho hd hr]
  exact State.modWatch_congr _ k (by simp only [State.enqueue, State.modPort_watch, hm])

theorem State.evalWatch_once_full (hm : (s.watch k).mode = .once) (hf : (s.watch k).Fits v)
    (hr : s.room p = false) :
    s.evalWatch k v = s.modWatch k fun w => { w with state := .pending, held := some v } := by
  rw [State.evalWatch_hit ((Watch.hits_iff _ _).mpr ⟨hf, by simp [hm]⟩), State.watchHit_full ho hd hr]
  exact s.modWatch_congr k (by simp [hm])

theorem State.evalWatch_persist_room (hm : (s.watch k).mode = .persist) (hf : (s.watch k).Fits v)
    (hlast : (s.watch k).lastMatched = false) (hr : s.room p = true) :
    s.evalWatch k v =
      (s.enqueue p (.watchHit k (s.watch k).flag v)).modWatch k fun w => { w with lastMatched := true } := by
  rw [State.evalWatch_hit ((Watch.hits_iff _ _).mpr ⟨hf, fun _ => hlast⟩), State.watchHit_room ho hd hr]
  exact State.modWatch_congr _ k (by simp only [State.enqueue, State.modPort_watch, hm])

theorem State.evalWatch_persist_full (hm : (s.watch k).mode = .persist) (hf : (s.watch k).Fits v)
    (hlast : (s.watch k).lastMatched = false) (hr : s.room p = false) :
    s.evalWatch k v = s.modWatch k fun w =>
      { w with state := .pending, held := some v, lastMatched := true } := by
  rw [State.evalWatch_hit ((Watch.hits_iff _ _).mpr ⟨hf, fun _ => hlast⟩), State.watchHit_full ho hd hr]
  exact s.modWatch_congr k (by simp [hm])

end
end

/-! ### What an evaluation leaves of the other entries -/

/-- All that one evaluation can do: nothing, a change of its entry, or that after one queued record. -/
theorem State.evalWatch_elim {P : State → Prop} {s : State} {k : WatchId} {v : Word} (h0 : P s)
    (hmod : ∀ g, P (s.modWatch k g)) (hhit : ∀ p e g, P ((s.enqueue p e).modWatch k g)) : P (s.evalWatch k v) := by
  unfold State.evalWatch
  split
  · unfold State.watchHit
    split
    next => exact h0
    next p _ =>
      split
      · exact hmod _
      · exact State.notify_elim (P := fun t => ∀ g : Watch → Watch, P (t.modWatch k g)) hmod (hhit p _) hmod _
  · exact hmod _

/-- From `s` to `t` entry `k` stays as it is, and no port changes its state or loses a queued record. -/
structure State.Spares (k : WatchId) (s t : State) : Prop where
  watch : t.watch k = s.watch k
  state : ∀ p, (t.port p).state = (s.port p).state
  queue : ∀ p, (s.port p).queue ⊆ (t.port p).queue

theorem State.Spares.refl (k : WatchId) (s : State) : s.Spares k s := ⟨rfl, fun _ => rfl, fun _ => List.Subset.refl _⟩

theorem State.Spares.trans {k : WatchId} {s t u : State} (h : s.Spares k t) (h' : t.Spares k u) : s.Spares k u :=
  ⟨h'.watch.trans h.watch, fun p => (h'.state p).trans (h.state p), fun p => List.Subset.trans (h.queue p) (h'.queue p)⟩

theorem State.Spares.modWatch {k j : WatchId} {s t : State} (h : s.Spares k t) (hj : k ≠ j) (g : Watch → Watch) :
    s.Spares k (t.modWatch j g) := ⟨(t.modWatch_watch_of_ne j k g hj).trans h.watch, h.state, h.queue⟩

theorem State.Spares.enqueue {k : WatchId} {s t : State} (h : s.Spares k t) (p : Port) (e : Event) :
    s.Spares k (t.enqueue p e) := by
  refine ⟨h.watch, fun x => ?_, fun x => ?_⟩ <;> rw [State.enqueue_port] <;> split
  next hx => rw [← hx]; exact h.state x
  next => exact h.state x
  next hx => rw [← hx]; exact List.subset_append_of_subset_left _ (h.queue x)
  next => exact h.queue x

/-- The step of the evaluation of a word's watches: entry `k` is evaluated if it is ARMED on the word (R123). -/
def State.evalOn (f : FlagId) (v : Word) (s : State) (k : WatchId) : State :=
  if (s.watch k).state = .armed ∧ (s.watch k).flag = f then s.evalWatch k v else s

theorem State.evalWatches_eq (s : State) (f : FlagId) (v : Word) :
    s.evalWatches f v = allWatches.foldl (State.evalOn f v) s := rfl

theorem State.evalOn_spares {j k : WatchId} (hj : k ≠ j) (f : FlagId) (v : Word) (s : State) :
    s.Spares k (s.evalOn f v j) := by
  have hrefl := State.Spares.refl k s
  unfold State.evalOn
  split
  · exact State.evalWatch_elim hrefl (hrefl.modWatch hj) fun p e => (hrefl.enqueue p e).modWatch hj
  · exact hrefl

theorem foldl_evalOn_spares {k : WatchId} {l : List WatchId} (hk : k ∉ l) (f : FlagId) (v : Word) (s : State) :
    s.Spares k (l.foldl (State.evalOn f v) s) := by
  induction l generalizing s with
  | nil => exact State.Spares.refl k s
  | cons j l ih =>
    obtain ⟨hj, hl⟩ := List.ne_and_not_mem_of_not_mem_cons hk
    exact (State.evalOn_spares hj f v s).trans (ih hl _)

/-! ### The visit of one entry -/

/-- Entry `k` is visited once, as it was before the evaluation of the word's watches and as it stays after. -/
theorem State.evalWatches_visit (s : State) (f : FlagId) (v : Word) (k : WatchId) :
    ∃ t, s.Spares k t ∧ (t.evalOn f v k).Spares k (s.evalWatches f v) := by
  obtain ⟨l, r, hlr⟩ := List.append_of_mem (List.mem_finRange k)
  have hnodup := List.nodup_finRange 16
  rw [hlr, List.nodup_middle, List.nodup_cons, List.mem_append, not_or] at hnodup
  obtain ⟨⟨hl, hr⟩, -⟩ := hnodup
  refine ⟨l.foldl (State.evalOn f v) s, foldl_evalOn_spares hl f v s, ?_⟩
  rw [State.evalWatches_eq, allWatches, hlr, List.foldl_append, List.foldl_cons]
  exact foldl_evalOn_spares hr f v _

/-- An entry that is not ARMED on the word stays as it is (R123). -/
theorem State.evalWatches_watch_of_not_armed {s : State} {f : FlagId} {k : WatchId} (v : Word)
    (h : ¬ ((s.watch k).state = .armed ∧ (s.watch k).flag = f)) : (s.evalWatches f v).watch k = s.watch k := by
  obtain ⟨t, hst, htu⟩ := s.evalWatches_visit f v k
  rw [← hst.watch] at h
  rw [htu.watch, State.evalOn, if_neg h, hst.watch]

/-- An entry ARMED on the word is evaluated as it stands, its owner's port in the same state. -/
theorem State.evalWatches_visit_armed {s : State} {f : FlagId} {k : WatchId} (v : Word)
    (ha : (s.watch k).state = .armed) (hf : (s.watch k).flag = f) :
    ∃ t, s.Spares k t ∧ (t.evalWatch k v).Spares k (s.evalWatches f v) := by
  obtain ⟨t, hst, htu⟩ := s.evalWatches_visit f v k
  rw [State.evalOn, if_pos (by rw [hst.watch]; exact ⟨ha, hf⟩)] at htu
  exact ⟨t, hst, htu⟩

/-- A record that joins a port's queue during a visit is still there at the end. -/
theorem State.Spares.mem_queue {s t : State} {k : WatchId} {p : Port} {e : Event} {g : Watch → Watch}
    (h : ((s.enqueue p e).modWatch k g).Spares k t) : e ∈ (t.port p).queue := by
  refine h.queue p (show e ∈ ((s.enqueue p e).port p).queue from ?_)
  rw [State.enqueue_port, if_pos rfl]
  exact List.mem_append_right _ List.mem_cons_self

/-- Settles O48: the equations of one evaluation, and the one visit that the fold pays to each entry. -/
theorem watchEvaluation : Obligations.WatchEvaluation := by
  unfold Obligations.WatchEvaluation
  refine ⟨fun s k v p ho hd => ?_, fun _ _ _ => rfl, fun s f v k p ha hflag ho hd => ?_, fun s f v k h => ?_⟩
  · exact ⟨State.evalWatch_once_miss, State.evalWatch_once_room ho hd, State.evalWatch_once_full ho hd,
      State.evalWatch_persist_miss, State.evalWatch_persist_again, State.evalWatch_persist_room ho hd,
      State.evalWatch_persist_full ho hd⟩
  · obtain ⟨t, hst, htu⟩ := State.evalWatches_visit_armed v ha hflag
    rw [← hst.state] at hd
    rw [← hst.watch] at ho hflag ⊢
    dsimp only
    rw [htu.watch]
    refine ⟨fun hfit => ?_, fun hfit hm => ?_, fun hfit hm hlast => ?_, fun hfit hm hlast => ?_⟩
    · cases hm : (t.watch k).mode with
      | once => rw [State.evalWatch_once_miss hm hfit, if_neg nofun]
      | persist => rw [State.evalWatch_persist_miss hm hfit, State.modWatch_watch_self, if_pos rfl, hm]
    · by_cases hr : t.room p = true
      · rw [State.evalWatch_once_room ho hd hm hfit hr] at htu ⊢
        have hmem := htu.mem_queue
        rw [hflag] at hmem
        exact .inl ⟨State.modWatch_watch_self _ _ _, hmem⟩
      · rw [State.evalWatch_once_full ho hd hm hfit (Bool.eq_false_iff.mpr hr)]
        exact .inr (State.modWatch_watch_self _ _ _)
    · rw [State.evalWatch_persist_again hm hfit hlast]
    · by_cases hr : t.room p = true
      · rw [State.evalWatch_persist_room ho hd hm hfit hlast hr] at htu ⊢
        have hmem := htu.mem_queue
        rw [hflag] at hmem
        exact .inl ⟨State.modWatch_watch_self _ _ _, hmem⟩
      · rw [State.evalWatch_persist_full ho hd hm hfit hlast (Bool.eq_false_iff.mpr hr)]
        exact .inr (State.modWatch_watch_self _ _ _)
  · exact State.evalWatches_watch_of_not_armed v (not_and_or.mpr h)

end Sys2Proof.Machine
end

section
/-! PROOFS. What WATCH_SET and WATCH_CLEAR answer (R122, R126). -/

namespace Sys2Proof.Machine

theorem State.freeWatch_eq_some {s : State} {k : WatchId} (h : (s.watch k).state = .free)
    (hfirst : ∀ x : WatchId, x < k → (s.watch x).state ≠ .free) : s.freeWatch = some k :=
  find?_finRange_eq_some_iff.mpr ⟨by simpa using h, fun x hx => by simpa using hfirst x hx⟩

theorem State.freeWatch_eq_none {s : State} (h : ∀ k : WatchId, (s.watch k).state ≠ .free) : s.freeWatch = none :=
  List.find?_eq_none.mpr fun k _ => by simpa using h k

/-- A watch just armed has no last match, so that its first evaluation is a hit where the value matches. -/
theorem WatchParams.hits_entry (a : WatchParams) (p : Port) (v : Word) :
    (a.entry p).hits v = (v &&& a.care == a.pattern &&& a.care) := by
  cases a with
  | mk flag mode care pattern =>
    cases mode with
    | once => rfl
    | persist => exact Bool.and_true _

section
variable {s : State} {p : Port} {ps : List Byte}

section
variable (ha : s.admits p inJoined = true) {a : WatchParams} (hp : parseWatch ps = some a)
include ha hp

theorem watchSetBody_of {k : WatchId} (hfree : s.freeWatch = some k) :
    watchSetBody p ps s = accepted
      (num1 k.val ++ yesNo (s.flagWord a.flag &&& a.care == a.pattern &&& a.care))
      ((s.modWatch k fun _ => a.entry p).evalWatch k (s.flagWord a.flag)) := by
  simp [watchSetBody, ha, hp, hfree, WatchParams.hits_entry]

theorem watchSetBody_full (hfree : s.freeWatch = none) : watchSetBody p ps s = refuse .watchFull s := by
  simp [watchSetBody, ha, hp, hfree]

end

variable (ha : s.admits p inSession = true) {k : WatchId} (hp : parseFin 16 ps = some k)
include ha hp

theorem watchClearBody_of (hst : (s.watch k).state ≠ .free) (ho : (s.watch k).owner = some p) :
    watchClearBody p ps s = accepted (num1 k.val ++ yesNo ((s.watch k).state == .pending))
      (s.modWatch k fun _ => Watch.cleared) := by
  simp [watchClearBody, ha, hp, hst, ho]

theorem watchClearBody_notOwner (h : (s.watch k).state = .free ∨ (s.watch k).owner ≠ some p) :
    watchClearBody p ps s = refuse .notOwner s := by
  simp only [watchClearBody, ha, hp, if_pos h]
  rfl

end

/-- Settles O49: WATCH_SET acts on the first FREE entry, WATCH_CLEAR on the entry named, where it is the port's. -/
theorem watchIsSetAndCleared : Obligations.WatchIsSetAndCleared := by
  unfold Obligations.WatchIsSetAndCleared
  intro s p q ps htakes
  dsimp only
  have hset : exec (.watchSet p q ps) s = .next (finishTaken p (watchSetBody p ps (s.received p q ps))) :=
    congrArg _ (hostFrame_takes _ htakes)
  have hclear : exec (.watchClear p q ps) s = .next (finishTaken p (watchClearBody p ps (s.received p q ps))) :=
    congrArg _ (hostFrame_takes _ htakes)
  simp only [hset, hclear, ← s.received_watch p q ps, ← s.received_flagWord p q ps,
    ← State.received_admits s p p q ps]
  generalize s.received p q ps = u
  refine ⟨fun ha a hp => ⟨fun k hfree hfirst => ?_, fun hnone => ?_⟩,
    fun ha k hps => ⟨fun hst ho => ?_, fun h => ?_⟩⟩
  · rw [watchSetBody_of ha hp (State.freeWatch_eq_some hfree hfirst), finishTaken_accepted]
    rfl
  · rw [watchSetBody_full ha hp (State.freeWatch_eq_none hnone), finishTaken_refuse]
  · rw [watchClearBody_of ha (by rw [hps]; exact parseFin_num1 (by decide) k) hst ho, finishTaken_accepted]
  · rw [watchClearBody_notOwner ha (by rw [hps]; exact parseFin_num1 (by decide) k) h, finishTaken_refuse]

end Sys2Proof.Machine
end

section
/-! PROOFS. What every event keeps, said for any law: a `Law` survives the shared operations (Laws/Kept.lean) and every
change of a port record that its state, its departure and its queue do not show. The checking order, the commands on
jobs, flags and the store, the host link and the Dispatcher then keep it. -/

namespace Sys2Proof.Machine

/-- The change does not show in the port's state, departure or queue. -/
def Unseen (f : PortRec → PortRec) : Prop :=
  ∀ r, (f r).state = r.state ∧ (f r).departure = r.departure ∧ (f r).queue = r.queue

/-- A property that the shared operations, the end of a drain and every unseen change of a port record keep. -/
structure Law (P : State → Prop) : Prop extends Kept P where
  idle : KeepsIdle P
  unseen : ∀ {s : State} {p : Port} {f : PortRec → PortRec}, Unseen f → P s → P (s.modPort p f)

/-- The row answers a state with the property. -/
def State.Answers (P : State → Prop) (n : Next) : Prop := ∃ t, n = .next t ∧ P t

theorem State.Answers.next {P : State → Prop} {t : State} (h : P t) : State.Answers P (.next t) := ⟨t, rfl, h⟩

/-! ### The checking order (R147) -/

section
variable {P : State → Prop} {s : State}

theorem guard_keeps {b : Prop} [Decidable b] {st : Status} {k : Taken} (h : P s) (hk : P k.1) :
    P (if b then refuse st s else k).1 := by
  split
  · exact h
  · exact hk

/-- A reply leaves the command's state as it is. -/
theorem accepted_keeps {t : State} (ht : P t) (data : List Byte) : P (accepted data t).1 := ht

theorem managerCommand_keeps {α : Type} {p : Port} {params : Option α} {k : α → Taken} (h : P s)
    (hk : ∀ a, P (k a).1) : P (managerCommand p params s k).1 := by
  unfold managerCommand
  refine guard_keeps h (guard_keeps h ?_)
  split
  · exact h
  · exact hk _

end

section
variable {P : State → Prop} (L : Law P) {s : State} (h : P s)
include L h

omit h in
theorem Law.closed {t : State} (ht : P t) (data : List Byte) : P (closing (accepted data t)).1 := by
  rw [closing_accepted]
  exact accepted_keeps (L.close L.idle ht) data

omit h in
theorem Law.closing {k : Taken} (hk : P k.1) : P (closing k).1 := by
  obtain ⟨t, r⟩ := k
  have ht : P t := hk
  rw [closing_some]
  dsimp only
  exact L.close L.idle ht

theorem Law.onJob (x : Handle) {k : Taken} (hk : P k.1) : P (onJob x s k).1 := by
  unfold Machine.onJob
  refine guard_keeps h ?_
  split
  · exact L.closing (k := refuse .jobState (s.quarantine x.slot)) (L.quarantine _ h)
  · exact guard_keeps h hk

theorem Law.heldCommand {α : Type} {p : Port} {params : Option α} {handle : α → Handle} {k : α → Taken}
    (hk : ∀ a, P (k a).1) : P (heldCommand p params handle s k).1 := by
  unfold Machine.heldCommand
  refine guard_keeps h (guard_keeps h ?_)
  split
  · exact h
  · refine L.onJob h _ ?_
    split
    · exact h
    · exact hk _

theorem Law.offerCommand {p : Port} {ps : List Byte} {k : Handle → Taken} (hk : ∀ x, P (k x).1) :
    P (offerCommand p ps s k).1 := by
  unfold Machine.offerCommand
  refine guard_keeps h (guard_keeps h ?_)
  split
  · exact h
  · exact L.onJob h _ (guard_keeps h (guard_keeps h (guard_keeps h (hk _))))

/-! ### Commands on jobs -/

theorem Law.submitBody (p : Port) (ps : List Byte) : P (submitBody p ps s).1 := by
  unfold Machine.submitBody
  refine guard_keeps h (guard_keeps h ?_)
  split
  · exact h
  · refine guard_keeps h ?_
    split
    · exact h
    · split
      · exact h
      · exact accepted_keeps (L.submitJob _ _ _ _ h) _

theorem Law.cancelBody (p : Port) (ps : List Byte) : P (cancelBody p ps s).1 := by
  unfold Machine.cancelBody
  refine guard_keeps h (guard_keeps h ?_)
  split
  · exact h
  · refine L.onJob h _ (guard_keeps h ?_)
    split
    · exact L.closed (L.finishJob _ _ h) _
    · exact L.closed (L.cancelOffered _ h) _
    · exact accepted_keeps (L.requestCancel _ h) _
    · exact h

theorem Law.reapBody (p : Port) (ps : List Byte) : P (reapBody p ps s).1 := by
  unfold Machine.reapBody
  refine guard_keeps h (guard_keeps h ?_)
  split
  · exact h
  · exact L.onJob h _ (guard_keeps h (guard_keeps h (L.closed (L.release _ (L.dropJobDone _ h)) _)))

theorem Law.chainResetBody (p : Port) (ps : List Byte) : P (chainResetBody p ps s).1 := by
  unfold Machine.chainResetBody
  refine guard_keeps h (guard_keeps h ?_)
  split
  · exact h
  · split
    · exact h
    · exact guard_keeps h (accepted_keeps (L.modChain _ _ h) _)

theorem Law.acceptBody (p : Port) (ps : List Byte) : P (acceptBody p ps s).1 :=
  L.offerCommand h fun _ => accepted_keeps (L.acceptJob _ _ h) _

theorem Law.declineBody (p : Port) (ps : List Byte) : P (declineBody p ps s).1 :=
  L.offerCommand h fun _ => accepted_keeps (L.declineJob _ _ h) _

theorem Law.renewBody (p : Port) (ps : List Byte) : P (renewBody p ps s).1 :=
  L.heldCommand h fun _ => accepted_keeps (L.writeJob _ _ h) _

theorem Law.returnBody (p : Port) (ps : List Byte) : P (returnBody p ps s).1 := by
  refine L.heldCommand h fun a => ?_
  dsimp only
  split
  · exact L.closed (L.finishJob _ _ (L.dropCancelRequest _ _ (L.leaveConsumer _ h))) _
  · exact L.closed (L.returnToQueue _ _ _ (L.dropCancelRequest _ _ h)) _

theorem Law.completeBody (p : Port) (ps : List Byte) : P (completeBody p ps s).1 :=
  L.heldCommand h fun _ => guard_keeps h (L.closed (L.completeJob _ _ h) _)

theorem Law.purgeBody (p : Port) (ps : List Byte) : P (purgeBody p ps s).1 :=
  managerCommand_keeps h fun _ => guard_keeps h (accepted_keeps (L.closeSlots (L.release _ h)) _)

/-! ### Flags and search -/

theorem Law.flagReadBody (p : Port) (ps : List Byte) : P (flagReadBody p ps s).1 := by
  unfold Machine.flagReadBody
  refine guard_keeps h ?_
  split
  · exact h
  · exact accepted_keeps (L.loadLatch _ _ _ h) _

theorem Law.flagCombineBody (p : Port) (ps : List Byte) : P (flagCombineBody p ps s).1 := by
  unfold Machine.flagCombineBody
  refine guard_keeps h ?_
  split
  · exact h
  · exact guard_keeps h (accepted_keeps (L.flagCombine _ _ h) _)

theorem Law.watchSetBody (p : Port) (ps : List Byte) : P (watchSetBody p ps s).1 := by
  unfold Machine.watchSetBody
  refine guard_keeps h ?_
  split
  · exact h
  · split
    · exact h
    · exact accepted_keeps (L.evalWatch _ _ (L.modWatch _ _ h)) _

theorem Law.watchClearBody (p : Port) (ps : List Byte) : P (watchClearBody p ps s).1 := by
  unfold Machine.watchClearBody
  refine guard_keeps h ?_
  split
  · exact h
  · exact guard_keeps h (accepted_keeps (L.modWatch _ _ h) _)

theorem Law.queryBody (p : Port) (ps : List Byte) : P (queryBody p ps s).1 := by
  have hq : ∀ (t : State) (i : SlotId), (answerQuery p i t).1 = t := fun t i => by
    unfold answerQuery
    split <;> rfl
  unfold Machine.queryBody
  refine guard_keeps h ?_
  split
  · exact h
  · refine guard_keeps h ?_
    split
    · refine L.closing ?_
      rw [hq]
      exact L.quarantine _ h
    · rw [hq]
      exact h

theorem Law.setScan (p : Port) (sc : Option Scan) : P (s.modPort p fun r => { r with scan := sc }) :=
  L.unseen (fun _ => ⟨rfl, rfl, rfl⟩) h

theorem Law.findBody (p : Port) (ps : List Byte) : P (findBody p ps s).1 := by
  have hcursor (n : Nat) : P (s.modPort p fun r => { r with cursor := n }) := L.unseen (fun _ => ⟨rfl, rfl, rfl⟩) h
  unfold Machine.findBody
  refine guard_keeps h ?_
  split
  · exact h
  · dsimp only
    split
    all_goals
      split
      · exact L.setScan (hcursor _) p _
      · exact accepted_keeps (hcursor _) _

theorem Law.cancelMatchBody (p : Port) (ps : List Byte) : P (cancelMatchBody p ps s).1 := by
  unfold Machine.cancelMatchBody
  refine guard_keeps h (guard_keeps h ?_)
  split
  · exact h
  · exact L.setScan h p _

/-! ### The host link (R189 to R195) -/

theorem Law.answer (p : Port) (r : Reply) : P (s.answer p r) := L.unseen (fun _ => ⟨rfl, rfl, rfl⟩) h

theorem Law.answerInFlight (p : Port) (r : Reply) : P (s.answerInFlight p r) := by
  unfold State.answerInFlight
  split
  · exact L.answer h p r
  · exact h

theorem Law.drivePdo (p : Port) (out : List Byte) : P (s.drivePdo p out) := L.unseen (fun _ => ⟨rfl, rfl, rfl⟩) h

theorem Law.modLink (p : Port) (f : Link → Link) : P (s.modLink p f) := L.unseen (fun _ => ⟨rfl, rfl, rfl⟩) h

theorem Law.endRead (p : Port) : P (s.endRead p) := by
  unfold State.endRead
  split
  · exact L.unseen (fun _ => ⟨rfl, rfl, rfl⟩) h
  · exact h

theorem Law.clockRead (p : Port) (n : Nat) : P (s.clockRead p n) := by
  unfold State.clockRead
  split
  · exact L.unseen (fun _ => ⟨rfl, rfl, rfl⟩) h
  · exact h

theorem Law.beginRead (p : Port) : P (s.beginRead p) := L.unseen (fun _ => ⟨rfl, rfl, rfl⟩) h

theorem Law.readResponse (p : Port) (n : Nat) : P (s.readResponse p n) :=
  L.endRead (L.clockRead (L.beginRead h p) p n) p

theorem Law.badFrame (p : Port) (q : Seq) : P (s.badFrame p q) := by
  unfold State.badFrame
  split <;> exact L.modLink h p _

theorem Law.abandon (p : Port) (cut : Option (List Byte)) : P (s.abandon p cut) := by
  unfold State.abandon
  split
  · exact L.unseen (fun _ => ⟨rfl, rfl, rfl⟩) h
  · exact L.unseen (fun _ => ⟨rfl, rfl, rfl⟩) h
  · exact h

omit h in
theorem Law.finishTaken (p : Port) {k : Taken} (hk : P k.1) : P (finishTaken p k) := by
  unfold Machine.finishTaken
  split
  · exact L.answer hk p _
  · exact hk

/-- A good frame keeps the law when the command it carries does (R192, R193). -/
theorem Law.goodFrame (p : Port) (q : Seq) {body : State → Taken} (hb : ∀ u, P u → P (body u).1) :
    P (s.goodFrame p q body) := by
  unfold State.goodFrame
  repeat' split
  · exact L.modLink h p _
  · exact L.modLink h p _
  · exact L.modLink h p _
  · exact L.finishTaken p (hb _ (L.unseen (fun _ => ⟨rfl, rfl, rfl⟩) h))

theorem Law.endTransaction (p : Port) {effect : State → State} (he : ∀ u, P u → P (effect u)) :
    P (s.endTransaction p effect) :=
  State.endTransaction_elim (L.unseen (fun _ => ⟨rfl, rfl, rfl⟩) h) h (he _ (L.endRead h p))

theorem Law.hostFrame (p : Port) (q : Seq) (ps : List Byte) {body : State → Taken} (hb : ∀ u, P u → P (body u).1) :
    P (hostFrame p q ps body s) := by
  refine L.endTransaction h p fun u hu => ?_
  dsimp only
  split
  · exact L.goodFrame (L.drivePdo hu p _) p q hb
  · exact L.badFrame (L.drivePdo hu p _) p q

/-- The bytes of a transaction keep the law when every command does (R189, R190). -/
theorem Law.transaction (p : Port) (bytes : List Byte) (hb : ∀ (f : Frame) u, P u → P (commandBody p f u).1) :
    P (s.transaction p bytes) := by
  refine L.endTransaction h p fun u hu => ?_
  split
  · exact hu
  · split
    · exact L.readResponse hu p _
    · dsimp only
      split
      · exact L.goodFrame (L.drivePdo hu p _) p _ (hb _)
      · exact L.badFrame (L.drivePdo hu p _) p _

theorem Law.openRead (p : Port) : P (s.openRead p) := by
  have h1 : P (s.modPort p fun r => { r with abandoned := false }) := L.unseen (fun _ => ⟨rfl, rfl, rfl⟩) h
  unfold State.openRead
  dsimp only
  split
  · exact h1
  · exact L.beginRead (L.endRead h1 p) p

/-! ### Offers (R49 to R57) and scans (R167) -/

/-- An offer is made to a port with a free queue entry. -/
theorem Law.makeOffer (i : SlotId) {p : Port} (hp : s.queueRoom p = true) : P (s.makeOffer i p) := by
  unfold State.makeOffer
  exact L.rest (L.enqueue (s := (s.leaveQueue i).writeSlot i _) hp (L.writeSlot i _ (L.leaveQueue i h)))
    rfl rfl rfl rfl rfl rfl

theorem Law.dispatch (fuel : Nat) (b : Bool) : P (State.dispatch fuel b s).1 := by
  induction fuel generalizing s b with
  | zero => exact h
  | succ n ih =>
    unfold State.dispatch
    split
    · exact h
    next i _ =>
      split
      · exact ih (L.quarantine _ h) true
      · split
        next p hp =>
          have hroom : s.room p = true :=
            (Bool.and_eq_true_iff.mp (State.tied_of_choosePort hp).1).2
          exact L.makeOffer h i (Bool.and_eq_true_iff.mp hroom).1
        next => exact h

omit h in
theorem Law.keepsMissed : KeepsMissed P := fun _ h => L.unseen (fun _ => ⟨rfl, rfl, rfl⟩) h

theorem Law.advanceScan (p : Port) (sc : Scan) (k : ScanKind) : P (s.advanceScan p sc k) := by
  have hcursor : P (s.modPort p fun r => { r with cursor := sc.next.val + 1 }) :=
    L.unseen (fun _ => ⟨rfl, rfl, rfl⟩) h
  unfold State.advanceScan
  dsimp only
  split <;> split
  · exact L.answerInFlight (L.setScan hcursor p none) p _
  · exact L.setScan hcursor p _
  · exact L.answerInFlight (L.setScan h p none) p _
  · exact L.setScan h p _

theorem Law.visit (p : Port) (sc : Scan) : P (s.visit p sc) := by
  have h1 : P (s.readRecord sc.next) := L.readRecord _ h
  unfold State.visit
  dsimp only
  split
  · exact L.advanceScan h1 p _ _
  · split
    · exact L.advanceScan (L.cancelAtVisit _ h1) p _ _
    · exact L.advanceScan h1 p _ _

/-! ### The part's own events -/

theorem Law.execResponseRead (p : Port) (part : ReadPart) : State.Answers P (execResponseRead p part s) := by
  refine .next ?_
  split
  · exact L.endTransaction h p fun _ hu => L.readResponse hu p _
  · exact L.openRead h p
  · split
    · exact h
    · exact L.clockRead h p _
  · exact L.endTransaction h p fun _ hu => hu

theorem Law.execOfferWindowExpiry (i : SlotId) : State.Answers P (execOfferWindowExpiry i s) := by
  unfold Machine.execOfferWindowExpiry
  split
  · exact .next h
  · split
    · exact .next (L.close L.idle (L.quarantine i h))
    · split
      · exact .next (L.expireOffer L.keepsMissed i _ h)
      · exact .next h

theorem Law.execLeaseExpiry (i : SlotId) : State.Answers P (execLeaseExpiry i s) := by
  unfold Machine.execLeaseExpiry
  split
  · exact .next h
  · split
    · exact .next (L.close L.idle (L.quarantine i h))
    · split
      · exact .next (L.close L.idle (L.expireLease i _ h))
      · exact .next h

theorem Law.execAgePromotion (i : SlotId) : State.Answers P (execAgePromotion i s) := by
  unfold Machine.execAgePromotion
  split
  · exact .next h
  · split
    · exact .next (L.close L.idle (L.quarantine i h))
    · exact .next (L.promote i h)

theorem Law.execOffer : State.Answers P (execOffer s) := by
  unfold Machine.execOffer
  split
  · exact .next h
  · exact .next (L.closeIf L.idle _ (L.dispatch h _ _))

theorem Law.execScanVisit (p : Port) : State.Answers P (execScanVisit p s) := by
  unfold Machine.execScanVisit
  split
  · exact .next h
  · split
    · exact .next (L.close L.idle (L.visit h p _))
    · exact .next h

end

end Sys2Proof.Machine
end

section
/-! PROOFS. The queue bound (R130) is a law, and the changes that no law covers keep it too: sessions that begin, end or
depart, the manager's settings, CLEAR_ALL, FETCH and the resets never put a record into a full queue. -/

namespace Sys2Proof.Machine

section
variable {s t : State} (h : s.queuesFit)
include h

/-- The bound is about the port records alone. -/
theorem State.queuesFit.of_ports (ht : t.ports = s.ports) : t.queuesFit := fun x => by
  rw [State.port, ht]
  exact h x

/-- A change of one port record that keeps its queue within the bound. -/
theorem State.queuesFit.modPort (p : Port) {f : PortRec → PortRec}
    (hf : ∀ r, r.queue.length ≤ 32 → (f r).queue.length ≤ 32) : (s.modPort p f).queuesFit := fun x => by
  rw [State.modPort_port]
  split
  · exact hf _ (h p)
  · exact h x

/-- A change of every port record alike that keeps queues within the bound. -/
theorem State.queuesFit.mapPorts {f : PortRec → PortRec} (ht : t.ports = mapV f s.ports)
    (hf : ∀ r, r.queue.length ≤ 32 → (f r).queue.length ≤ 32) : t.queuesFit := fun x => by
  have hx : t.port x = f (s.port x) := by simp [State.port, ht]
  rw [hx]
  exact hf _ (h x)

theorem State.queuesFit.enqueue {p : Port} (e : Event) (hp : s.queueRoom p = true) : (s.enqueue p e).queuesFit :=
  fun x => by
    have hlt : (s.port p).queue.length < 32 := of_decide_eq_true hp
    rw [State.enqueue_port]
    split
    · simpa using hlt
    · exact h x

end

theorem queuesFit_law : Law State.queuesFit where
  rest := fun h ht _ _ _ _ _ => h.of_ports ht
  quiet := fun hf h => h.modPort _ fun r hr => by
    obtain ⟨-, -, -, -, -, -, -, hq, -⟩ := hf r
    rwa [hq]
  enqueue := fun hp h => h.enqueue _ hp
  idle := fun h _ _ => ⟨h.modPort _ fun _ => id, h.modPort _ fun _ => id⟩
  unseen := fun hf h => h.modPort _ fun r hr => by rwa [(hf r).2.2]

section
variable {s : State} (h : s.queuesFit)
include h

/-! ### Sessions -/

theorem State.queuesFit.dropClaim : s.dropClaim.queuesFit := by
  have h0 : State.queuesFit { s with manager := none } := h.of_ports rfl
  have h1 : State.queuesFit { s with manager := none, hold := false } := h.of_ports rfl
  unfold State.dropClaim
  dsimp only
  split
  · exact queuesFit_law.notifyJoined _ (queuesFit_law.notifyJoined _ h1)
  · exact queuesFit_law.notifyJoined _ h0

theorem State.queuesFit.dropClaimIf (p : Port) : (if s.isManager p then s.dropClaim else s).queuesFit := by
  split
  · exact h.dropClaim
  · exact h

theorem State.queuesFit.beginDeparture (p : Port) (c : DepCause) (o : OrphanPolicy) (a : Option Port) :
    (s.beginDeparture p c o a).queuesFit := (h.dropClaimIf p).modPort p fun _ => id

theorem State.queuesFit.joinPort (p : Port) (j : JoinParams) : (s.joinPort p j).queuesFit := by
  unfold State.joinPort
  refine queuesFit_law.closeIf queuesFit_law.idle _ (State.queuesFit.modPort ?_ p fun _ => id)
  exact foldl_keeps (fun _ i ht => queuesFit_law.undecline p i ht) _ (h.modPort p fun _ => id)

theorem joinBody_queuesFit (p : Port) (ps : List Byte) : (joinBody p ps s).1.queuesFit := by
  unfold joinBody
  refine guard_keeps h ?_
  split
  · exact h
  · exact accepted_keeps (h.joinPort p _) _

theorem setServiceBody_queuesFit (p : Port) (ps : List Byte) : (setServiceBody p ps s).1.queuesFit := by
  unfold setServiceBody
  refine guard_keeps h (guard_keeps h ?_)
  split
  · exact h
  · exact h.modPort p fun _ => id

theorem leaveDrain_queuesFit (p : Port) : (leaveDrain p s).1.queuesFit := by
  have h1 := (h.dropClaimIf p).modPort p (f := fun r => { r with state := .leaving }) fun _ => id
  have h2 := queuesFit_law.close queuesFit_law.idle (queuesFit_law.withdrawOffers p true h1)
  unfold leaveDrain
  exact accepted_keeps (P := State.queuesFit) h2 _

theorem leaveBody_queuesFit (p : Port) (ps : List Byte) : (leaveBody p ps s).1.queuesFit := by
  unfold leaveBody
  refine guard_keeps h ?_
  split
  · exact h
  · exact leaveDrain_queuesFit h p
  · exact h.beginDeparture p _ _ _

theorem portStatusBody_queuesFit (p : Port) (ps : List Byte) : (portStatusBody p ps s).1.queuesFit := by
  unfold portStatusBody
  refine guard_keeps h (guard_keeps h ?_)
  split <;> exact h

theorem claimManagerBody_queuesFit (p : Port) (ps : List Byte) : (claimManagerBody p ps s).1.queuesFit := by
  have h1 : State.queuesFit { s with manager := some p } := h.of_ports rfl
  unfold claimManagerBody
  refine guard_keeps h ?_
  split
  · exact h
  · split
    · exact accepted_keeps (queuesFit_law.notifyJoined _ h1) _
    · split <;> exact h

theorem releaseManagerBody_queuesFit (p : Port) (ps : List Byte) : (releaseManagerBody p ps s).1.queuesFit := by
  unfold releaseManagerBody
  refine guard_keeps h (guard_keeps h ?_)
  split
  · exact h
  · exact accepted_keeps h.dropClaim _

theorem evictBody_queuesFit (p : Port) (ps : List Byte) : (evictBody p ps s).1.queuesFit :=
  managerCommand_keeps h fun _ => guard_keeps h (h.beginDeparture _ _ _ _)

/-! ### FETCH and READ_COUNTS -/

/-- A FETCH takes records out of its port's queue, and delivery stops at a full one (R133, R134). -/
theorem fetchBody_queuesFit (p : Port) (ps : List Byte) : (fetchBody p ps s).1.queuesFit := by
  unfold fetchBody
  refine guard_keeps h ?_
  split
  · exact h
  · exact accepted_keeps (queuesFit_law.closeSlots (queuesFit_law.deliver p
      (h.modPort p fun r hr => by rw [List.length_drop]; omega))) _

theorem readCountsBody_queuesFit (p : Port) (ps : List Byte) : (readCountsBody p ps s).1.queuesFit := by
  unfold readCountsBody
  refine guard_keeps h ?_
  split <;> exact h

/-! ### Device control -/

theorem holdBody_queuesFit (p : Port) (ps : List Byte) : (holdBody p ps s).1.queuesFit := by
  have h1 : State.queuesFit { s with hold := true } := h.of_ports rfl
  refine managerCommand_keeps h fun _ => accepted_keeps ?_ _
  split
  · exact h
  · exact queuesFit_law.notifyJoined _ h1

theorem resumeBody_queuesFit (p : Port) (ps : List Byte) : (resumeBody p ps s).1.queuesFit := by
  have h1 : State.queuesFit { s with hold := false } := h.of_ports rfl
  refine managerCommand_keeps h fun _ => accepted_keeps ?_ _
  split
  · exact queuesFit_law.notifyJoined _ h1
  · exact h

theorem State.queuesFit.setPolicy (c : ClassId) (r : ClassPolicy) : (s.setPolicy c r).queuesFit := by
  unfold State.setPolicy
  dsimp only
  split <;> exact h.of_ports rfl

theorem setClassPolicyBody_queuesFit (p : Port) (ps : List Byte) : (setClassPolicyBody p ps s).1.queuesFit :=
  managerCommand_keeps h fun _ => guard_keeps h (accepted_keeps (h.setPolicy _ _) _)

omit h in
/-- CLEAR_ALL leaves a queue empty or with CLEARED alone (R143). -/
theorem PortRec.clear_queue_length (r : PortRec) : r.clear.queue.length ≤ 1 := by
  unfold PortRec.clear
  dsimp only
  split <;> dsimp only [PortRec.endSession] <;> split <;> simp

omit h in
theorem State.clearAll_queuesFit (s : State) : s.clearAll.queuesFit := fun x => by
  have hx : ∃ r : PortRec, s.clearAll.port x = r.clear := ⟨_, getElem_mapV PortRec.clear _ _ _⟩
  obtain ⟨r, hr⟩ := hx
  rw [hr]
  exact r.clear_queue_length.trans (by decide)

theorem clearAllBody_queuesFit (p : Port) (ps : List Byte) : (clearAllBody p ps s).1.queuesFit :=
  managerCommand_keeps h fun _ => accepted_keeps s.clearAll_queuesFit _

/-! ### Any command -/

theorem commandBody_queuesFit (p : Port) (f : Frame) : (commandBody p f s).1.queuesFit := by
  have L := queuesFit_law
  unfold commandBody
  split
  · exact joinBody_queuesFit h _ _
  · exact setServiceBody_queuesFit h _ _
  · exact leaveBody_queuesFit h _ _
  · exact leaveBody_queuesFit h _ _
  · exact portStatusBody_queuesFit h _ _
  · exact claimManagerBody_queuesFit h _ _
  · exact releaseManagerBody_queuesFit h _ _
  · exact L.submitBody h _ _
  · exact L.cancelBody h _ _
  · exact L.reapBody h _ _
  · exact L.chainResetBody h _ _
  · exact L.acceptBody h _ _
  · exact L.declineBody h _ _
  · exact L.renewBody h _ _
  · exact L.returnBody h _ _
  · exact L.completeBody h _ _
  · exact L.flagReadBody h _ _
  · exact L.flagCombineBody h _ _
  · exact L.watchSetBody h _ _
  · exact L.watchClearBody h _ _
  · exact fetchBody_queuesFit h _ _
  · exact L.queryBody h _ _
  · exact L.findBody h _ _
  · exact L.cancelMatchBody h _ _
  · exact readCountsBody_queuesFit h _ _
  · exact holdBody_queuesFit h _ _
  · exact resumeBody_queuesFit h _ _
  · exact managerCommand_keeps h fun _ => h.of_ports rfl
  · exact managerCommand_keeps h fun _ => h.of_ports rfl
  · exact setClassPolicyBody_queuesFit h _ _
  · exact managerCommand_keeps h fun _ => h.of_ports rfl
  · exact managerCommand_keeps h fun _ => h.modPort _ fun _ => id
  · exact managerCommand_keeps h fun _ => h.of_ports rfl
  · exact evictBody_queuesFit h _ _
  · exact L.purgeBody h _ _
  · exact clearAllBody_queuesFit h _ _
  · exact h

end

end Sys2Proof.Machine
end

section
/-! PROOFS. The queue bound over one step: the part's own events and the statement (R130). -/

namespace Sys2Proof.Machine

/-! ### Marks discarded and departures -/

/-- The discard of marks leaves port records alone (R141 step 2). -/
theorem foldl_discard_port (p x : Port) (l : List SlotId) (m : List ChainId) (t : State) :
    (m.foldl (discardChainMark p) (l.foldl (discardSlotMarks p) t)).port x = t.port x := by
  refine foldl_keeps (P := fun u : State => u.port x = t.port x) (fun u e hu => ?_) m
    (foldl_keeps (P := fun u : State => u.port x = t.port x) (fun u i hu => ?_) l rfl)
  · unfold discardChainMark
    split <;> exact hu
  · rw [discardSlotMarks_eq]
    exact hu

/-- Step 1 of R141 empties its port's queue and notice set; the steps after it change no port record. -/
theorem State.clearNotices_port (s : State) (p x : Port) :
    (s.clearNotices p).port x =
      if x = p then { s.port p with queue := [], notices := NoticeSet.clear } else s.port x := by
  unfold State.clearNotices
  dsimp only
  rw [State.closeSlots_port, foldl_discard_port, State.modPort_port]

section
variable {s : State} (h : s.queuesFit)
include h

theorem State.queuesFit.clearNotices (p : Port) : (s.clearNotices p).queuesFit := fun x => by
  rw [State.clearNotices_port]
  split
  · exact Nat.zero_le _
  · exact h x

theorem State.queuesFit.advance (p : Port) (st : DepStep) (n : DepCounts) : (s.advance p st n).queuesFit :=
  h.modPort p fun _ => id

theorem State.queuesFit.stepWithdraw (p : Port) (d : Departure) : (s.stepWithdraw p d).queuesFit := by
  have h1 : (s.withdrawOffers p false).1.queuesFit := queuesFit_law.withdrawOffers p false h
  have h2 := h1.modPort p (f := fun r => { r with missed := 0, stalled := false }) fun _ => id
  exact queuesFit_law.close queuesFit_law.idle (h2.advance p _ _)

theorem State.queuesFit.stepReclaim (p : Port) (d : Departure) : (s.stepReclaim p d).queuesFit := by
  have hl : ((s.port p).workingSet.foldl (reclaimJob p) (s, d.counts)).1.queuesFit :=
    foldl_keeps (P := fun a : State × DepCounts => a.1.queuesFit) (fun _ i ha => queuesFit_law.reclaimJob p i ha) _ h
  exact queuesFit_law.close queuesFit_law.idle (hl.advance p _ _)

theorem State.queuesFit.stepOrphans (p : Port) (d : Departure) : (s.stepOrphans p d).queuesFit :=
  have h1 : (s.orphanHandling p d.orphan d.counts).1.queuesFit := queuesFit_law.orphanHandling p _ _ h
  queuesFit_law.close queuesFit_law.idle (h1.advance p _ _)

theorem State.queuesFit.stepWatches (p : Port) (d : Departure) : (s.stepWatches p d).queuesFit :=
  State.queuesFit.advance (queuesFit_law.freeWatches p h) p _ _

/-- The notice that ends a departure joins an empty queue (R141 steps 1 and 4). -/
theorem State.queuesFit.stepNotices (p : Port) (d : Departure) : (s.stepNotices p d).queuesFit := by
  have h1 : ((s.clearNotices p).advance p .search d.counts).queuesFit := (h.clearNotices p).advance p _ _
  have hroom : ((s.clearNotices p).advance p .search d.counts).queueRoom p = true := by
    refine decide_eq_true ?_
    rw [State.advance, State.modPort_port_self, State.clearNotices_port, if_pos rfl]
    exact Nat.succ_pos _
  unfold State.stepNotices
  dsimp only
  split
  · exact h1.enqueue _ hroom
  · exact h1

theorem State.queuesFit.abandonScan (p : Port) : (s.abandonScan p).queuesFit := by
  unfold State.abandonScan
  refine State.queuesFit.modPort ?_ p fun _ => id
  split
  · exact queuesFit_law.answerInFlight h p _
  · exact h

theorem State.queuesFit.endDeparture (p : Port) (d : Departure) : (s.endDeparture p d).queuesFit := by
  have h1 : (s.modPort p fun r =>
      { r.endSession with
        queue := if d.prstSeen then [] else r.queue
        state := if r.prst then .down else .idle }).queuesFit := h.modPort p fun r hr => by
    dsimp only
    split
    · exact Nat.zero_le _
    · exact hr
  unfold State.endDeparture
  dsimp only
  split
  · exact queuesFit_law.answer h1 _ _
  · exact h1

theorem State.queuesFit.stepSearch (p : Port) (d : Departure) : (s.stepSearch p d).queuesFit :=
  (h.abandonScan p).endDeparture p d

/-! ### Resets (R145, R146, R187) -/

omit h in
theorem State.powerOn_queuesFit (s : State) : s.powerOn.queuesFit := fun x => by
  simp [State.port, State.powerOn, PortRec.powerOn]

omit h in
theorem PortRec.enterIdle_queue (r : PortRec) : r.enterIdle.queue = r.queue := by
  unfold PortRec.enterIdle
  split <;> rfl

theorem State.queuesFit.portReset (p : Port) : (s.portReset p).queuesFit := by
  unfold State.portReset
  split
  · exact h.modPort p fun _ => id
  · split
    · exact h
    · exact (h.clearNotices p).modPort p fun _ => id
    · exact h.beginDeparture p _ _ _
    · exact h.beginDeparture p _ _ _

theorem State.queuesFit.assertPrst (p : Port) (cut : Option (List Byte)) : (s.assertPrst p cut).queuesFit := by
  have h1 : ((s.abandon p cut).modPort p fun r => { r with prst := true }).queuesFit :=
    (queuesFit_law.abandon h p cut).modPort p fun _ => id
  unfold State.assertPrst
  dsimp only
  split
  · exact h1
  · refine State.queuesFit.portReset ?_ p
    exact (queuesFit_law.modLink h1 p _).mapPorts rfl fun _ => id

theorem execPrstNAssert_fits (a : PrstAssertion) : State.Answers State.queuesFit (execPrstNAssert a s) := by
  refine .next ?_
  split
  · exact h
  · exact h.assertPrst _ _

theorem execPrstNDeassert_fits (p : Port) : State.Answers State.queuesFit (execPrstNDeassert p s) := by
  refine .next ?_
  split
  · refine h.modPort p fun r hr => ?_
    dsimp only
    split
    · exact hr
    · rwa [PortRec.enterIdle_queue]
  · exact h

theorem execResetNRelease_fits : State.Answers State.queuesFit (execResetNRelease s) := by
  refine .next ?_
  split
  · exact h.mapPorts (f := PortRec.enterIdle) rfl fun r hr => by rwa [PortRec.enterIdle_queue]
  · exact h

/-! ### One step -/

/-- A step of a departure keeps the bound when its own change does; elsewhere it does not take place. -/
theorem departureStep_fits (p : Port) (st : DepStep) {f : Departure → State} (hf : ∀ d, (f d).queuesFit) :
    State.Answers State.queuesFit (match s.departureAt p st with
      | some d => .next (f d)
      | none => .next s) := by
  split
  · exact .next (hf _)
  · exact .next h

theorem exec_fits (c : Instr) : State.Answers State.queuesFit (exec c s) := by
  have L := queuesFit_law
  cases hf : c.frame with
  | some pf =>
    rw [exec_of_frame hf]
    exact .next (L.hostFrame h _ _ _ fun _ hu => commandBody_queuesFit hu _ _)
  | none =>
    have hbytes (p : Port) (bytes : List Byte) : (s.transaction p bytes).queuesFit :=
      L.transaction h p bytes fun f _ hu => commandBody_queuesFit hu p f
    cases c with
    | commandFrameBad p bytes => exact .next (hbytes p bytes)
    | retransmission p bytes => exact .next (hbytes p bytes)
    | overrun p bytes => exact .next (hbytes p bytes)
    | badCommand p bytes => exact .next (hbytes p bytes)
    | goodFrameOnDownPort p bytes => exact .next (hbytes p bytes)
    | responseRead p part => exact L.execResponseRead h p part
    | resetNAssert => exact .next s.powerOn_queuesFit
    | resetNRelease => exact execResetNRelease_fits h
    | prstNAssert a => exact execPrstNAssert_fits h a
    | prstNDeassert p => exact execPrstNDeassert_fits h p
    | tick => refine .next ?_; split; exacts [h, h.of_ports rfl]
    | offerWindowExpiry i => exact L.execOfferWindowExpiry h i
    | leaseExpiry i => exact L.execLeaseExpiry h i
    | agePromotion i => exact L.execAgePromotion h i
    | offer => exact L.execOffer h
    | scanVisit p => exact L.execScanVisit h p
    | departureOfferWithdrawal p => exact departureStep_fits h p _ (h.stepWithdraw p)
    | departureReclaim p => exact departureStep_fits h p _ (h.stepReclaim p)
    | orphanHandling p => exact departureStep_fits h p _ (h.stepOrphans p)
    | departureWatchRelease p => exact departureStep_fits h p _ (h.stepWatches p)
    | departureNoticeClear p => exact departureStep_fits h p _ (h.stepNotices p)
    | departureScanAbandon p => exact departureStep_fits h p _ (h.stepSearch p)
    | _ => cases hf

/-- A REFCLK period changes no port record (R177). -/
theorem State.queuesFit.refclk : s.refclk.queuesFit := by
  unfold State.refclk
  repeat' split
  · exact h
  · exact h.of_ports rfl
  · exact h.of_ports rfl

theorem step_fits : State.Answers State.queuesFit (step s) := by
  unfold step
  split
  · exact .next h.refclk
  · refine exec_fits ?_ _
    exact h.of_ports rfl

end

/-- Settles O58: the bound is a law, and what no law covers never puts a record into a full queue. -/
theorem stepKeepsTheQueueBound : Obligations.StepKeepsTheQueueBound := by
  unfold Obligations.StepKeepsTheQueueBound
  intro s t h hst
  obtain ⟨u, hu, hfit⟩ := step_fits h
  obtain rfl := Host.Outcome.next.inj (hu.symm.trans hst)
  exact hfit

end Sys2Proof.Machine
end

section
/-! PROOFS. Notices queued, owed or discarded (R131, R137), and the attention output (R132). -/

namespace Sys2Proof.Machine

/-- A notice for a DOWN port is discarded (R131). -/
theorem State.notify_down {s : State} {p : Port} (e : Event) (owe : State → State) (h : (s.port p).state = .down) :
    s.notify p e owe = s := if_pos h

/-- Without room a notice is owed (R131). -/
theorem State.notify_full {s : State} {p : Port} (e : Event) (owe : State → State) (h1 : (s.port p).state ≠ .down)
    (h2 : ¬ s.room p = true) : s.notify p e owe = owe s := by
  rw [State.notify, if_neg h1, if_neg h2]

theorem State.not_room_iff (s : State) (p : Port) :
    ¬ s.room p = true ↔ 32 ≤ (s.port p).queue.length ∨ s.owed p = true := by
  rw [State.room_iff, not_and_or, Nat.not_lt, Bool.not_eq_false]

theorem State.attention_iff (s : State) (p : Port) :
    s.attention p = true ↔ (s.port p).state ≠ .down ∧ (s.port p).queue ≠ [] := by
  rw [State.attention, Bool.and_eq_true, bne_iff_ne, Bool.not_eq_true', List.isEmpty_eq_false_iff]

/-- Settles O52: both notices about a job are the Notice Unit's, with the record's mark as what is owed. -/
theorem jobNoticesAreQueuedOrOwed : Obligations.JobNoticesAreQueuedOrOwed := by
  unfold Obligations.JobNoticesAreQueuedOrOwed
  intro s i p
  refine ⟨s.attention_iff p, fun n => ⟨State.notify_down _ _, fun hd hlen ho => ?_, fun hd hfull => ?_⟩,
    fun n => ⟨State.notify_down _ _, fun hd hlen ho => ?_, fun hd hfull => ?_⟩⟩
  · exact State.notify_room _ _ hd ((s.room_iff p).mpr ⟨hlen, ho⟩)
  · exact State.notify_full _ _ hd ((s.not_room_iff p).mpr hfull)
  · exact State.notify_room _ _ hd ((s.room_iff p).mpr ⟨hlen, ho⟩)
  · exact State.notify_full _ _ hd ((s.not_room_iff p).mpr hfull)

end Sys2Proof.Machine
end

section
/-! PROOFS. A port notice for every JOINED port, and the drop of the claim (R136, R160). One port's record and whether
anything is owed to it decide together what the notice does to them, and it does nothing to another port's. -/

namespace Sys2Proof.Machine

/-- A notice set with a notice added is not clear (R136). -/
theorem NoticeSet.any_add (ns : NoticeSet) (n : PortNotice) : (ns.add n).any = true := by
  cases n <;> simp [NoticeSet.add, NoticeSet.any]

/-- A change of one port's record owes nothing to another port. -/
theorem State.owed_modPort_of_ne (s : State) {p x : Port} (f : PortRec → PortRec) (h : x ≠ p) :
    (s.modPort p f).owed x = s.owed x :=
  State.owed_congr (by rw [State.modPort_port_of_ne s p x f h]) (fun _ => ⟨rfl, rfl⟩) (fun _ => ⟨rfl, rfl⟩)
    fun _ => ⟨rfl, rfl⟩

/-- A port's record, and whether a mark is owed to the port. -/
def State.standingOf (s : State) (p : Port) : PortRec × Bool := (s.port p, s.owed p)

/-- What a notice for every JOINED port makes of one port's record and of whether a mark is owed to it. -/
def PortNotice.told (n : PortNotice) (a : PortRec × Bool) : PortRec × Bool :=
  if a.1.state = .joined then
    if a.1.queue.length < 32 ∧ a.2 = false then
      ({ a.1 with queue := a.1.queue ++ [.portNotice n] }, false)
    else ({ a.1 with notices := a.1.notices.add n }, true)
  else a

theorem PortNotice.told_of_room {n : PortNotice} {r : PortRec} (hj : r.state = .joined) (hlen : r.queue.length < 32) :
    n.told (r, false) = ({ r with queue := r.queue ++ [.portNotice n] }, false) := by
  simp [PortNotice.told, hj, hlen]

theorem PortNotice.told_of_full {n : PortNotice} {r : PortRec} {o : Bool} (hj : r.state = .joined)
    (hr : ¬ (r.queue.length < 32 ∧ o = false)) : n.told (r, o) = ({ r with notices := r.notices.add n }, true) := by
  simp only [PortNotice.told, hj, if_true, if_neg hr]

theorem PortNotice.told_of_not_joined {n : PortNotice} {a : PortRec × Bool} (hj : a.1.state ≠ .joined) :
    n.told a = a := if_neg hj

/-- The notice for one port, if it is JOINED. -/
def State.tellIfJoined (n : PortNotice) (s : State) (p : Port) : State :=
  if s.joined p then s.notifyPort p n else s

theorem State.standingOf_tellIfJoined (n : PortNotice) (s : State) (p x : Port) :
    (s.tellIfJoined n p).standingOf x = if x = p then n.told (s.standingOf x) else s.standingOf x := by
  unfold State.tellIfJoined
  by_cases hj : (s.port p).state = .joined
  · have hd : (s.port p).state ≠ .down := by rw [hj]; exact nofun
    rw [if_pos (show s.joined p = true from beq_iff_eq.mpr hj), State.notifyPort]
    by_cases hr : s.room p = true
    · obtain ⟨hlen, ho⟩ := (s.room_iff p).mp hr
      rw [State.notify_room _ _ hd hr, State.standingOf, State.owed_enqueue, State.enqueue_port]
      split
      next hx =>
        subst hx
        rw [State.standingOf, ho, PortNotice.told_of_room hj hlen]
      next => rfl
    · rw [State.notify_full _ _ hd hr]
      split
      next hx =>
        subst hx
        rw [State.room_iff] at hr
        have ho : (s.modPort x fun r => { r with notices := r.notices.add n }).owed x = true :=
          (State.owed_iff _ x).mpr (.inl (by rw [State.modPort_port_self]; exact NoticeSet.any_add _ _))
        rw [State.standingOf, ho, State.modPort_port_self, State.standingOf, PortNotice.told_of_full hj hr]
      next hx => rw [State.standingOf, State.modPort_port_of_ne s p x _ hx, State.owed_modPort_of_ne s _ hx]; rfl
  · rw [if_neg (show ¬ s.joined p = true from fun h => hj (beq_iff_eq.mp h))]
    split
    next hx => subst hx; exact (PortNotice.told_of_not_joined hj).symm
    next => rfl

/-- Each port is told once (R136). -/
theorem State.standingOf_notifyJoined (s : State) (n : PortNotice) (x : Port) :
    (s.notifyJoined n).standingOf x = n.told (s.standingOf x) :=
  (foldl_reads (State.standingOf_tellIfJoined n) allPorts (List.nodup_finRange 4) s x).trans
    (if_pos (List.mem_finRange x))

theorem State.notifyJoined_port (s : State) (n : PortNotice) (x : Port) :
    (s.notifyJoined n).port x =
      if (s.port x).state = .joined then
        if (s.port x).queue.length < 32 ∧ s.owed x = false then
          { s.port x with queue := (s.port x).queue ++ [.portNotice n] }
        else { s.port x with notices := (s.port x).notices.add n }
      else s.port x := by
  have h := congrArg Prod.fst (s.standingOf_notifyJoined n x)
  refine h.trans ?_
  unfold PortNotice.told State.standingOf
  dsimp only
  split
  · split <;> rfl
  · rfl

/-- Port notices change port records alone. -/
theorem State.notifyJoined_rest (s : State) (n : PortNotice) :
    s.notifyJoined n = { s with ports := (s.notifyJoined n).ports } :=
  foldl_keeps (P := fun t : State => t = { s with ports := t.ports }) (f := State.tellIfJoined n)
    (fun t p ht => by
      unfold State.tellIfJoined
      split
      · rw [State.notifyPort_rest, ht]
      · exact ht) allPorts rfl

/-! ### The drop of the claim (R160) -/

/-- The drop of the claim is the loss of the claim and of HOLD with the notices of both. -/
theorem State.dropClaim_eq (s : State) :
    s.dropClaim = (if s.hold then { s with manager := none, hold := false }.notifyJoined .holdOff
      else { s with manager := none, hold := false }).notifyJoined (.managerChanged none) := by
  unfold State.dropClaim
  dsimp only
  split
  · rfl
  next h =>
    rw [Bool.not_eq_true] at h
    rw [← h]

theorem State.dropClaim_rest (s : State) :
    s.dropClaim = { s with manager := none, hold := false, ports := s.dropClaim.ports } := by
  have told (n : PortNotice) {t : State} (ht : t = { s with manager := none, hold := false, ports := t.ports }) :
      t.notifyJoined n = { s with manager := none, hold := false, ports := (t.notifyJoined n).ports } :=
    (t.notifyJoined_rest n).trans (congrArg (fun u : State => { u with ports := (t.notifyJoined n).ports }) ht)
  rw [State.dropClaim_eq]
  refine told _ ?_
  split
  · exact told _ rfl
  · rfl

/-- What a port's record and its owed marks become at the drop of the claim. -/
theorem State.standingOf_dropClaim (s : State) (x : Port) :
    s.dropClaim.standingOf x = PortNotice.told (.managerChanged none)
      (if s.hold then PortNotice.told .holdOff (s.standingOf x) else s.standingOf x) := by
  rw [State.dropClaim_eq, State.standingOf_notifyJoined]
  split
  · rw [State.standingOf_notifyJoined]
    rfl
  · rfl

/-- Two free entries hold HOLD_OFF and MANAGER_CHANGED (R160). -/
theorem State.dropClaim_port_of_room {s : State} {x : Port} (hj : (s.port x).state = .joined)
    (hlen : (s.port x).queue.length ≤ 30) (ho : s.owed x = false) :
    s.dropClaim.port x =
      { s.port x with
        queue := (s.port x).queue
          ++ (if s.hold then [.portNotice .holdOff] else []) ++ [.portNotice (.managerChanged none)] } := by
  refine (congrArg Prod.fst (s.standingOf_dropClaim x)).trans ?_
  rw [State.standingOf, ho]
  split
  · rw [PortNotice.told_of_room hj (by omega), PortNotice.told_of_room]
    · exact hj
    · simp only [List.length_append, List.length_singleton]
      omega
  · rw [PortNotice.told_of_room hj (by omega), List.append_nil]

theorem State.dropClaim_port_of_not_joined {s : State} {x : Port} (hj : (s.port x).state ≠ .joined) :
    s.dropClaim.port x = s.port x := by
  refine (congrArg Prod.fst (s.standingOf_dropClaim x)).trans ?_
  rw [PortNotice.told_of_not_joined (a := s.standingOf x) hj, ite_self, PortNotice.told_of_not_joined hj]
  rfl

/-- Settles O19: every port is told once, and the drop of the claim tells it twice at most. -/
theorem joinedPortsAreNotified : Obligations.JoinedPortsAreNotified := by
  unfold Obligations.JoinedPortsAreNotified
  intro s
  refine ⟨fun n => ⟨s.notifyJoined_port n, s.notifyJoined_rest n⟩, ?_, ?_,
    fun x => State.dropClaim_port_of_room, fun x => State.dropClaim_port_of_not_joined, s.dropClaim_rest⟩
  · rw [State.dropClaim_rest]
  · rw [State.dropClaim_rest]

end Sys2Proof.Machine
end

section
/-! PROOFS. The bytes of an event record (R197, R199). -/

namespace Sys2Proof.Machine

/-- A tag's two bytes are its halves, the low one first (R197). -/
theorem num2_toNat (t : BitVec 16) : num2 t.toNat = [t.extractLsb' 0 8, t.extractLsb' 8 8] := by
  have hlow : BitVec.ofNat 8 t.toNat = t.extractLsb' 0 8 := by
    apply BitVec.eq_of_toNat_eq
    simp
  have hhigh : BitVec.ofNat 8 (t.toNat / 256) = t.extractLsb' 8 8 := by
    apply BitVec.eq_of_toNat_eq
    simp [Nat.shiftRight_eq_div_pow]
  rw [num2, hlow, hhigh]

/-- A word's four bytes are its quarters, the lowest first (R197). -/
theorem wordBytes_eq (w : Word) : wordBytes w =
    [w.extractLsb' 0 8, w.extractLsb' 8 8, w.extractLsb' 16 8, w.extractLsb' 24 8] := by
  have hbyte (k : Nat) : (w >>> k).setWidth 8 = w.extractLsb' k 8 := by
    apply BitVec.eq_of_toNat_eq
    simp
  rw [wordBytes, hbyte, hbyte, hbyte, ← hbyte 0, BitVec.ushiftRight_zero]

theorem length_flatMap_wordBytes (ws : List Word) : (ws.flatMap wordBytes).length = 4 * ws.length := by
  simp [List.length_flatMap, wordBytes, Nat.mul_comm]

/-- An OFFER's body is seven bytes and its payload (R199). -/
theorem Event.offer_bytes (h : Handle) (c : ClassId) (u : Nat) (t : BitVec 16) (ws : List Word) :
    Event.bytes (.offer h c u t ws) = [1, BitVec.ofNat 8 (7 + 4 * ws.length)] ++ handleBytes h
      ++ [BitVec.ofNat 8 c.val, BitVec.ofNat 8 u, t.extractLsb' 0 8, t.extractLsb' 8 8, BitVec.ofNat 8 ws.length]
      ++ ws.flatMap wordBytes := by
  have hlen : (Event.offer h c u t ws).body.length = 7 + 4 * ws.length := by
    simp only [Event.body, List.length_append, length_flatMap_wordBytes]
    rfl
  rw [Event.bytes, hlen, Event.body, num2_toNat]
  simp [Event.kind, num1]

theorem Event.watchHit_bytes (k : WatchId) (f : FlagId) (v : Word) :
    Event.bytes (.watchHit k f v) =
      [8, 6, BitVec.ofNat 8 k.val, BitVec.ofNat 8 f.val]
        ++ [v.extractLsb' 0 8, v.extractLsb' 8 8, v.extractLsb' 16 8, v.extractLsb' 24 8] := by
  rw [Event.bytes, Event.body, wordBytes_eq]
  rfl

end Sys2Proof.Machine
end

section
/-! PROOFS. FETCH (R133, R134): the records it takes, and the statement. -/

namespace Sys2Proof.Machine

/-- A FETCH takes the longest run from the head within its count and the response bytes (R133). -/
theorem takeRecords_spec (n room : Nat) (l : List Event) : ∃ m : Nat, takeRecords n room l = l.take m ∧ m ≤ n
    ∧ m ≤ l.length ∧ ((l.take m).flatMap Event.bytes).length ≤ room
    ∧ (m < n → m < l.length → room < ((l.take (m + 1)).flatMap Event.bytes).length) := by
  induction n generalizing room l with
  | zero => exact ⟨0, by cases l <;> rfl, le_rfl, Nat.zero_le _, Nat.zero_le _, fun h => absurd h (Nat.not_lt_zero 0)⟩
  | succ n ih =>
    cases l with
    | nil => exact ⟨0, rfl, Nat.zero_le _, le_rfl, Nat.zero_le _, fun _ h => absurd h (Nat.not_lt_zero 0)⟩
    | cons e es =>
      by_cases he : e.bytes.length ≤ room
      · obtain ⟨m, htake, hn, hlen, hfits, hmax⟩ := ih (room - e.bytes.length) es
        refine ⟨m + 1, ?_, by omega, by simpa using hlen, ?_, fun h1 h2 => ?_⟩
        · rw [takeRecords, if_pos he, htake, List.take_succ_cons]
        · rw [List.take_succ_cons, List.flatMap_cons, List.length_append]
          omega
        · have := hmax (by omega) (by simpa using h2)
          rw [List.take_succ_cons, List.flatMap_cons, List.length_append]
          omega
      · refine ⟨0, by rw [takeRecords, if_neg he, List.take_zero], Nat.zero_le _, Nat.zero_le _, Nat.zero_le _,
          fun _ _ => ?_⟩
        rw [List.take_succ_cons, List.flatMap_cons, List.length_append]
        omega

theorem parseFetch_num1 {n : Nat} (h1 : 1 ≤ n) (h8 : n ≤ 8) : parseFetch (num1 n) = some n := by
  have hn : (BitVec.ofNat 8 n).toNat = n := by
    rw [BitVec.toNat_ofNat]
    omega
  simp only [parseFetch, num1, hn]
  exact if_neg (by omega)

/-- An admitted FETCH answers the records it takes and delivers what is owed behind the rest (R133, R134). -/
theorem fetchBody_of {s : State} {p : Port} {n m : Nat} (h1 : 1 ≤ n) (h8 : n ≤ 8) (ha : s.admits p inAny = true)
    (htake : takeRecords n Config.dataCapacity (s.port p).queue = (s.port p).queue.take m)
    (hm : m ≤ (s.port p).queue.length) :
    fetchBody p (num1 n) s =
      accepted (num1 m ++ ((s.port p).queue.take m).flatMap Event.bytes)
        (((s.modPort p fun r => { r with queue := (s.port p).queue.drop m }).deliver p).closeSlots) := by
  simp only [fetchBody, ha, parseFetch_num1 h1 h8, htake, List.length_take, Nat.min_eq_left hm]
  rfl

/-- Settles O50: a record's bytes kind by kind, and the longest run that a FETCH takes. -/
theorem fetchTakesFromTheHead : Obligations.FetchTakesFromTheHead := by
  unfold Obligations.FetchTakesFromTheHead
  refine ⟨fun e => ?_, fun s p q n h1 h8 htakes ha => ?_⟩
  · cases e with
    | offer h c u tag ws => exact (Event.offer_bytes h c u tag ws).trans (by rw [← funext wordBytes_eq]; rfl)
    | watchHit k f v => exact Event.watchHit_bytes k f v
    | offerWithdrawn h r => cases r <;> rfl
    | leaseLost h r => cases r <;> rfl
    | cancelRequest h => rfl
    | jobDone h st code => cases st <;> cases code <;> rfl
    | jobLost h => rfl
    | chainBroken id h n => rfl
    | portNotice n =>
      cases n with
      | managerChanged x => cases x <;> rfl
      | _ => rfl
  · dsimp only
    have hq : ((s.received p q (num1 n)).port p).queue = (s.port p).queue := by
      rw [State.received_port, if_pos rfl]
    obtain ⟨m, htake, hn, hlen, hfits, hmax⟩ := takeRecords_spec n Config.dataCapacity (s.port p).queue
    refine ⟨m, hn, hlen, hfits, hmax, ?_⟩
    rw [← hq] at htake hlen ⊢
    rw [exec_of_takes (f := ⟨q, _, num1 n⟩) rfl htakes]
    have hbody := fetchBody_of (s := s.received p q (num1 n)) h1 h8 (by rwa [State.received_admits]) htake hlen
    exact congrArg Host.Outcome.next ((congrArg (finishTaken p) hbody).trans (finishTaken_accepted p _ _))

end Sys2Proof.Machine
end

section
/-! PROOFS. Delivery of owed marks, record by record (R134, R138). `State.Delivers` says what a part of the delivery
does with the records its part owes: as many as fit join the queue in order, and the others stay owed. Parts one after
the other deliver their records one after the other, so that the whole delivery follows from its single steps. -/

namespace Sys2Proof.Machine

/-! ### Folds over records visited once -/

/-- A fold whose steps change the record they name alone leaves a record that it does not name. -/
theorem foldl_read_of_not_mem {σ ι α : Type} {f : σ → ι → σ} {read : σ → ι → α}
    (hf : ∀ s i j, j ≠ i → read (f s i) j = read s j) {l : List ι} {j : ι} (hj : j ∉ l) (s : σ) :
    read (l.foldl f s) j = read s j := by
  induction l generalizing s with
  | nil => rfl
  | cons i l ih =>
    obtain ⟨hi, hl⟩ := List.ne_and_not_mem_of_not_mem_cons hj
    rw [List.foldl_cons, ih hl, hf _ _ _ hi]

/-- Such a fold pays one visit to a record that it names. -/
theorem foldl_visit {σ ι α : Type} {f : σ → ι → σ} {read : σ → ι → α}
    (hf : ∀ s i j, j ≠ i → read (f s i) j = read s j) {l l' : List ι} {j : ι} (hl : (l ++ j :: l').Nodup) (s : σ) :
    read (l.foldl f s) j = read s j
      ∧ read ((l ++ j :: l').foldl f s) j = read (f (l.foldl f s) j) j := by
  rw [List.nodup_middle, List.nodup_cons, List.mem_append, not_or] at hl
  obtain ⟨⟨hl, hl'⟩, -⟩ := hl
  rw [List.foldl_append, List.foldl_cons]
  exact ⟨foldl_read_of_not_mem hf hl s, foldl_read_of_not_mem hf hl' _⟩

/-! ### Parts of the delivery -/

/-- From `s` to `t` the records that a part owes in `s` join the queue of port `p`, as many as fit, and the others are
owed in `t`. -/
structure State.Delivers (p : Port) (owes : State → List Event) (s t : State) : Prop where
  queue : (t.port p).queue = (s.port p).queue ++ (owes s).take (32 - (s.port p).queue.length)
  left : owes t = (owes s).drop (32 - (s.port p).queue.length)

theorem State.queueRoom_iff (s : State) (p : Port) : s.queueRoom p = true ↔ (s.port p).queue.length < 32 :=
  decide_eq_true_iff

section
variable {p : Port} {owes owes' : State → List Event} {s t u : State}

/-- Without a free entry, or with nothing owed, nothing is delivered. -/
theorem State.Delivers.refl (h : s.queueRoom p = false ∨ owes s = []) : State.Delivers p owes s s := by
  obtain h | h := h
  · rw [Bool.eq_false_iff, ne_eq, State.queueRoom_iff, Nat.not_lt] at h
    have hfree : 32 - (s.port p).queue.length = 0 := by omega
    exact ⟨by rw [hfree, List.take_zero, List.append_nil], by rw [hfree, List.drop_zero]⟩
  · exact ⟨by rw [h, List.take_nil, List.append_nil], by rw [h, List.drop_nil]⟩

/-- With a free entry the next record joins the queue. -/
theorem State.Delivers.next {e : Event} (hr : s.queueRoom p = true) (hs : owes s = e :: owes t)
    (ht : (t.port p).queue = (s.port p).queue ++ [e]) (h : State.Delivers p owes t u) : State.Delivers p owes s u := by
  rw [State.queueRoom_iff] at hr
  have hfree : 32 - (s.port p).queue.length = 32 - (t.port p).queue.length + 1 := by
    rw [ht, List.length_append, List.length_singleton]
    omega
  refine ⟨?_, ?_⟩
  · rw [hfree, hs, List.take_succ_cons, h.queue, ht, List.append_assoc, List.singleton_append]
  · rw [hfree, hs, List.drop_succ_cons, h.left]

/-- The one record of a part joins the queue. -/
theorem State.Delivers.one {e : Event} (hr : s.queueRoom p = true) (hs : owes s = [e]) (ht : owes t = [])
    (hq : (t.port p).queue = (s.port p).queue ++ [e]) : State.Delivers p owes s t :=
  .next hr (by rw [hs, ht]) hq (.refl (.inr ht))

/-- Two parts, one after the other, where neither touches what the other owes. -/
theorem State.Delivers.append (h : State.Delivers p owes s t) (h' : State.Delivers p owes' t u)
    (ht : owes' t = owes' s) (hu : owes u = owes t) : State.Delivers p (fun x => owes x ++ owes' x) s u := by
  have hfree : 32 - (t.port p).queue.length = 32 - (s.port p).queue.length - (owes s).length := by
    rw [h.queue, List.length_append, List.length_take]
    omega
  refine ⟨?_, ?_⟩
  · rw [h'.queue, hfree, ht, h.queue, List.take_append, List.append_assoc]
  · rw [hu, h.left, h'.left, hfree, ht, List.drop_append]

/-- A part for each record of a list, where no part touches what another owes. -/
theorem State.Delivers.foldl {ι : Type} {f : State → ι → State} {r : State → ι → List Event}
    (hself : ∀ s x, State.Delivers p (r · x) s (f s x)) (hne : ∀ s x y, y ≠ x → r (f s x) y = r s y) {l : List ι}
    (hl : l.Nodup) (s : State) : State.Delivers p (fun u => l.flatMap (r u)) s (l.foldl f s) := by
  induction l generalizing s with
  | nil => exact .refl (.inr rfl)
  | cons x l ih =>
    obtain ⟨hx, hl⟩ := List.nodup_cons.mp hl
    have hrest : l.flatMap (r (f s x)) = l.flatMap (r s) :=
      List.flatMap_congr fun y hy => hne s x y (ne_of_mem_of_not_mem hy hx)
    have := (hself s x).append (ih hl (f s x)) hrest (foldl_read_of_not_mem hne hx _)
    simpa only [List.flatMap_cons, List.foldl_cons] using this

end

/-! ### The single steps -/

/-- The record of a slot's producer mark owed to port `p`. -/
def State.producerRecords (s : State) (p : Port) (i : SlotId) : List Event :=
  (((s.slot i).producerMark.filter fun m => m.port == p).map fun m => m.notice.event (s.handle i)).toList

/-- The record of a slot's consumer mark for port `p`. -/
def State.consumerRecords (s : State) (p : Port) (i : SlotId) : List Event :=
  ((s.slot i).consumerMarks[p].map fun n => n.event (s.handle i)).toList

theorem State.slotRecords_eq (s : State) (p : Port) (i : SlotId) :
    s.slotRecords p i = s.producerRecords p i ++ s.consumerRecords p i := rfl

section
variable (p : Port) (s : State)

/-- The next owed notice is the first in R136's order. -/
theorem NoticeSet.next_cases (ns : NoticeSet) :
    (ns.next = none ∧ ns.owedNotices = [])
      ∨ ∃ n ns', ns.next = some (n, ns') ∧ ns.owedNotices = n :: ns'.owedNotices := by
  unfold NoticeSet.next
  repeat' split
  all_goals simp_all [NoticeSet.owedNotices]

theorem NoticeSet.length_owedNotices_le (ns : NoticeSet) : ns.owedNotices.length ≤ 8 := by
  have hbit (b : Bool) (n : PortNotice) : (if b then [n] else []).length ≤ 1 := by cases b <;> simp
  have hopt (o : Option PortNotice) : o.toList.length ≤ 1 := by cases o <;> simp
  simp only [NoticeSet.owedNotices, List.length_append]
  have h1 := hbit ns.left .left
  have h2 := hbit ns.evicted .evicted
  have h3 := hbit ns.stalled .stalled
  have h4 := hopt (ns.portStalled.map .portStalled)
  have h5 := hopt (ns.managerChanged.map .managerChanged)
  have h6 := hbit ns.holdOn .holdOn
  have h7 := hbit ns.holdOff .holdOff
  have h8 := hbit ns.cleared .cleared
  omega

/-- All that a step at the notice set can do (R138 part 1). -/
theorem deliverNotice_cases :
    ((s.queueRoom p = false ∨ (s.port p).notices.owedNotices = []) ∧ deliverNotice p s = s)
      ∨ ∃ n ns, s.queueRoom p = true ∧ (s.port p).notices.owedNotices = n :: ns.owedNotices
        ∧ deliverNotice p s = (s.enqueue p (.portNotice n)).modPort p fun r => { r with notices := ns } := by
  obtain ⟨hnext, hno⟩ | ⟨n, ns, hnext, howed⟩ := (s.port p).notices.next_cases
  · exact .inl ⟨.inr hno, by simp [deliverNotice, hnext]⟩
  · cases hr : s.queueRoom p
    · exact .inl ⟨.inl rfl, by simp [deliverNotice, hr]⟩
    · exact .inr ⟨n, ns, rfl, howed, by simp [deliverNotice, hr, hnext]⟩

/-- All that a step at a producer mark can do (R138 part 2). -/
theorem deliverProducer_cases (i : SlotId) :
    ((s.queueRoom p = false ∨ s.producerRecords p i = []) ∧ deliverProducer p s i = s)
      ∨ ∃ m, s.queueRoom p = true ∧ (s.slot i).producerMark = some m ∧ m.port = p
        ∧ deliverProducer p s i = (s.enqueue p (m.notice.event (s.handle i))).setProducerMark i none := by
  cases hm : (s.slot i).producerMark with
  | none => exact .inl ⟨.inr (by simp [State.producerRecords, hm]), by simp [deliverProducer, hm]⟩
  | some m =>
    by_cases hp : m.port = p
    · cases hr : s.queueRoom p
      · exact .inl ⟨.inl rfl, by simp [deliverProducer, hr]⟩
      · exact .inr ⟨m, rfl, rfl, hp, by simp [deliverProducer, hr, Slot.owesProducer, hm, hp]⟩
    · exact .inl ⟨.inr (by simp [State.producerRecords, hm, hp]),
        by simp [deliverProducer, Slot.owesProducer, hm, hp]⟩

/-- All that a step at a consumer mark can do (R138 part 2). -/
theorem deliverConsumer_cases (i : SlotId) :
    ((s.queueRoom p = false ∨ s.consumerRecords p i = []) ∧ deliverConsumer p s i = s)
      ∨ ∃ n, s.queueRoom p = true ∧ (s.slot i).consumerMarks[p] = some n
        ∧ deliverConsumer p s i = (s.enqueue p (n.event (s.handle i))).setConsumerMark i p none := by
  cases hn : (s.slot i).consumerMarks[p] with
  | none => exact .inl ⟨.inr (by simp [State.consumerRecords, hn]), by simp [deliverConsumer, hn]⟩
  | some n =>
    cases hr : s.queueRoom p
    · exact .inl ⟨.inl rfl, by simp [deliverConsumer, hr]⟩
    · exact .inr ⟨n, rfl, rfl, by simp [deliverConsumer, hr, hn]⟩

/-- All that a step at a chain entry can do (R138 part 3). -/
theorem deliverChain_cases (e : ChainId) :
    ((s.queueRoom p = false ∨ s.chainRecords p e = []) ∧ deliverChain p s e = s)
      ∨ ∃ m, s.queueRoom p = true ∧ (s.chain e).owed = some m ∧ (s.chain e).owner = some p
        ∧ deliverChain p s e =
          (s.enqueue p (.chainBroken m.chainId m.failing m.count)).modChain e fun c => { c with owed := none } := by
  cases hm : (s.chain e).owed with
  | none => exact .inl ⟨.inr (by simp [State.chainRecords, hm]), by simp [deliverChain, hm]⟩
  | some m =>
    by_cases hp : (s.chain e).owner = some p
    · cases hr : s.queueRoom p
      · exact .inl ⟨.inl rfl, by simp [deliverChain, hr]⟩
      · exact .inr ⟨m, rfl, rfl, hp, by simp [deliverChain, hr, ChainEntry.owes, hm, hp]⟩
    · exact .inl ⟨.inr (if_neg hp), by simp [deliverChain, ChainEntry.owes, hp]⟩

/-- All that a step at a watch entry can do (R138 part 4). -/
theorem deliverWatch_cases (k : WatchId) :
    ((s.queueRoom p = false ∨ ¬ ((s.watch k).state = .pending ∧ (s.watch k).owner = some p)) ∧ deliverWatch p s k = s)
      ∨ (s.queueRoom p = true ∧ (s.watch k).state = .pending ∧ (s.watch k).owner = some p
        ∧ deliverWatch p s k =
          (s.enqueue p (.watchHit k (s.watch k).flag ((s.watch k).held.getD 0))).settleWatch k) := by
  by_cases hw : (s.watch k).state = .pending ∧ (s.watch k).owner = some p
  · obtain ⟨hst, ho⟩ := hw
    cases hr : s.queueRoom p
    · exact .inl ⟨.inl rfl, by simp [deliverWatch, hr]⟩
    · exact .inr ⟨rfl, hst, ho, by simp [deliverWatch, hr, Watch.owes, hst, ho]⟩
  · refine .inl ⟨.inr hw, ?_⟩
    have : (s.watch k).owes p = false := by simpa [Watch.owes] using hw
    simp [deliverWatch, this]

end

end Sys2Proof.Machine
end

section
/-! PROOFS. What each step of the delivery leaves alone: the frame of a delivery to one port, and the owed records of
the delivery's other parts. -/

namespace Sys2Proof.Machine

/-! ### The records a port is owed, part by part -/

/-- The owed port notices, as records (R138 part 1). -/
def State.noticeRecords (s : State) (p : Port) : List Event :=
  (s.port p).notices.owedNotices.map Event.portNotice

theorem State.owedRecords_eq (s : State) (p : Port) :
    s.owedRecords p = s.noticeRecords p ++ allSlots.flatMap (s.slotRecords p)
      ++ allChains.flatMap (s.chainRecords p) ++ allWatches.flatMap (s.watchRecords p) := rfl

section
variable {s t : State} {p : Port}

theorem State.slotRecords_congr {i : SlotId} (h : t.slot i = s.slot i) : t.slotRecords p i = s.slotRecords p i := by
  simp only [State.slotRecords, State.handle, h]

theorem State.chainRecords_congr {e : ChainId} (h : t.chain e = s.chain e) :
    t.chainRecords p e = s.chainRecords p e := by
  simp only [State.chainRecords, h]

theorem State.watchRecords_congr {k : WatchId} (h : t.watch k = s.watch k) :
    t.watchRecords p k = s.watchRecords p k := by
  simp only [State.watchRecords, h]

end

/-! ### The frame of a delivery -/

/-- From `s` to `t` a delivery to port `p` has changed the port's queue and notice set, and marks owed to the port. -/
structure State.DeliveryFrame (p : Port) (s t : State) : Prop where
  own : t.port p = { s.port p with queue := (t.port p).queue, notices := (t.port p).notices }
  port : ∀ x, x ≠ p → t.port x = s.port x
  slots : ∀ x, x ≠ p → ∀ i, t.slotRecords x i = s.slotRecords x i
  chain : ∀ e, t.chain e = { s.chain e with owed := (t.chain e).owed }
  chains : ∀ x, x ≠ p → ∀ e, t.chainRecords x e = s.chainRecords x e
  watches : ∀ x, x ≠ p → ∀ k, t.watchRecords x k = s.watchRecords x k
  rest : t = { s with ports := t.ports, slots := t.slots, chains := t.chains, watches := t.watches }

theorem State.DeliveryFrame.refl (p : Port) (s : State) : State.DeliveryFrame p s s :=
  ⟨rfl, fun _ _ => rfl, fun _ _ _ => rfl, fun _ => rfl, fun _ _ _ => rfl, fun _ _ _ => rfl, rfl⟩

section
variable {p : Port} {s t : State} (h : State.DeliveryFrame p s t)
include h

theorem State.DeliveryFrame.trans {u : State} (h' : State.DeliveryFrame p t u) : State.DeliveryFrame p s u where
  own := by rw [h'.own, h.own]
  port := fun x hx => (h'.port x hx).trans (h.port x hx)
  slots := fun x hx i => (h'.slots x hx i).trans (h.slots x hx i)
  chain := fun e => by rw [h'.chain, h.chain]
  chains := fun x hx e => (h'.chains x hx e).trans (h.chains x hx e)
  watches := fun x hx k => (h'.watches x hx k).trans (h.watches x hx k)
  rest := by rw [h'.rest, h.rest]

theorem State.DeliveryFrame.owedRecords {x : Port} (hx : x ≠ p) : t.owedRecords x = s.owedRecords x := by
  simp only [State.owedRecords, h.port x hx, funext (h.slots x hx), funext (h.chains x hx), funext (h.watches x hx)]

end

section
variable (p : Port) (s : State)

theorem State.DeliveryFrame.modPort {f : PortRec → PortRec}
    (hf : f (s.port p) = { s.port p with queue := (f (s.port p)).queue, notices := (f (s.port p)).notices }) :
    State.DeliveryFrame p s (s.modPort p f) :=
  ⟨by rw [State.modPort_port_self]; exact hf, fun x hx => State.modPort_port_of_ne s p x f hx, fun _ _ _ => rfl,
    fun _ => rfl, fun _ _ _ => rfl, fun _ _ _ => rfl, rfl⟩

theorem State.DeliveryFrame.enqueue (e : Event) : State.DeliveryFrame p s (s.enqueue p e) := .modPort p s rfl

/-- A change of a slot's marks that leaves what other ports are owed. -/
theorem State.DeliveryFrame.modSlot {i : SlotId} {f : Slot → Slot} (hgen : (f (s.slot i)).gen = (s.slot i).gen)
    (hp : ∀ x, x ≠ p → ((f (s.slot i)).producerMark.filter fun m => m.port == x)
      = (s.slot i).producerMark.filter fun m => m.port == x)
    (hc : ∀ x, x ≠ p → (f (s.slot i)).consumerMarks[x] = (s.slot i).consumerMarks[x]) :
    State.DeliveryFrame p s (s.modSlot i f) := by
  refine ⟨rfl, fun _ _ => rfl, fun x hx j => ?_, fun _ => rfl, fun _ _ _ => rfl, fun _ _ _ => rfl, rfl⟩
  simp only [State.slotRecords, State.handle, State.modSlot_slot]
  split
  next e => subst e; rw [hgen, hp x hx, hc x hx]
  next => rfl

theorem State.DeliveryFrame.setProducerMark {i : SlotId} {m : ProducerMark} (hm : (s.slot i).producerMark = some m)
    (hp : m.port = p) : State.DeliveryFrame p s (s.setProducerMark i none) := by
  unfold State.setProducerMark State.writeSlot
  refine .modSlot p s rfl (fun x hx => ?_) fun _ _ => rfl
  have hne : ¬ (m.port == x) = true := by rw [hp, beq_iff_eq]; exact Ne.symm hx
  rw [hm, Option.filter_some, if_neg hne, Option.filter_none]

theorem State.DeliveryFrame.setConsumerMark (i : SlotId) : State.DeliveryFrame p s (s.setConsumerMark i p none) := by
  unfold State.setConsumerMark State.writeSlot
  refine .modSlot p s rfl (fun _ _ => rfl) fun x hx => ?_
  exact Vector.getElem_set_ne p.isLt x.isLt fun e => hx (Fin.ext e).symm

/-! ### The steps -/

theorem deliverNotice_frame : State.DeliveryFrame p s (deliverNotice p s) := by
  obtain ⟨-, h⟩ | ⟨n, ns, -, -, h⟩ := deliverNotice_cases p s
  · rw [h]
    exact .refl p s
  · rw [h]
    exact (State.DeliveryFrame.enqueue p s _).trans (.modPort p _ rfl)

theorem deliverProducer_frame (i : SlotId) : State.DeliveryFrame p s (deliverProducer p s i) := by
  obtain ⟨-, h⟩ | ⟨m, -, hm, hp, h⟩ := deliverProducer_cases p s i
  · rw [h]
    exact .refl p s
  · rw [h]
    exact (State.DeliveryFrame.enqueue p s _).trans (.setProducerMark p _ hm hp)

theorem deliverConsumer_frame (i : SlotId) : State.DeliveryFrame p s (deliverConsumer p s i) := by
  obtain ⟨-, h⟩ | ⟨n, -, -, h⟩ := deliverConsumer_cases p s i
  · rw [h]
    exact .refl p s
  · rw [h]
    exact (State.DeliveryFrame.enqueue p s _).trans (.setConsumerMark p _ i)

theorem deliverSlot_frame (i : SlotId) : State.DeliveryFrame p s (deliverSlot p s i) :=
  (deliverProducer_frame p s i).trans (deliverConsumer_frame p _ i)

theorem deliverChain_frame (e : ChainId) : State.DeliveryFrame p s (deliverChain p s e) := by
  obtain ⟨-, h⟩ | ⟨m, -, hm, ho, h⟩ := deliverChain_cases p s e
  · rw [h]
    exact .refl p s
  · rw [h]
    refine (State.DeliveryFrame.enqueue p s _).trans ⟨rfl, fun _ _ => rfl, fun _ _ _ => rfl, fun d => ?_,
      fun x hx d => ?_, fun _ _ _ => rfl, rfl⟩
    · rw [State.modChain_chain]
      split
      next hd => subst hd; rfl
      next => rfl
    · simp only [State.chainRecords, State.modChain_chain]
      split
      next hd =>
        subst hd
        have hne : (s.chain d).owner ≠ some x := by rw [ho]; exact fun h => hx (Option.some.inj h).symm
        exact (if_neg hne).trans (if_neg hne).symm
      next => rfl

theorem deliverWatch_frame (k : WatchId) : State.DeliveryFrame p s (deliverWatch p s k) := by
  obtain ⟨-, h⟩ | ⟨-, -, ho, h⟩ := deliverWatch_cases p s k
  · rw [h]
    exact .refl p s
  · rw [h]
    refine (State.DeliveryFrame.enqueue p s _).trans ⟨rfl, fun _ _ => rfl, fun _ _ _ => rfl, fun _ => rfl,
      fun _ _ _ => rfl, fun x hx j => ?_, rfl⟩
    simp only [State.watchRecords, State.settleWatch, State.modWatch_watch]
    split
    next hj =>
      subst hj
      have hne : (s.watch j).owner ≠ some x := by rw [ho]; exact fun h => hx (Option.some.inj h).symm
      refine Eq.trans (if_neg ?_) (if_neg fun h => hne h.2).symm
      split
      · exact fun h => nomatch h.1
      · exact fun h => nomatch h.1
    next => rfl

end

/-! ### What a step leaves of the other parts -/

section
variable (p : Port) (s : State)

/-- A step at the notice set leaves the marks. -/
theorem deliverNotice_marks : (deliverNotice p s).slots = s.slots ∧ (deliverNotice p s).chains = s.chains
    ∧ (deliverNotice p s).watches = s.watches := by
  obtain ⟨-, h⟩ | ⟨n, ns, -, -, h⟩ := deliverNotice_cases p s <;> rw [h] <;> exact ⟨rfl, rfl, rfl⟩

theorem State.noticeRecords_enqueue (e : Event) : (s.enqueue p e).noticeRecords p = s.noticeRecords p := by
  rw [State.noticeRecords, State.enqueue_port, if_pos rfl]
  rfl

/-- A step at a slot leaves the notices, the chain entries and the watches. -/
theorem deliverProducer_others (i : SlotId) : (deliverProducer p s i).noticeRecords p = s.noticeRecords p
    ∧ (deliverProducer p s i).chains = s.chains ∧ (deliverProducer p s i).watches = s.watches := by
  obtain ⟨-, h⟩ | ⟨m, -, -, -, h⟩ := deliverProducer_cases p s i <;> rw [h]
  · exact ⟨rfl, rfl, rfl⟩
  · exact ⟨s.noticeRecords_enqueue p _, rfl, rfl⟩

theorem deliverConsumer_others (i : SlotId) : (deliverConsumer p s i).noticeRecords p = s.noticeRecords p
    ∧ (deliverConsumer p s i).chains = s.chains ∧ (deliverConsumer p s i).watches = s.watches := by
  obtain ⟨-, h⟩ | ⟨n, -, -, h⟩ := deliverConsumer_cases p s i <;> rw [h]
  · exact ⟨rfl, rfl, rfl⟩
  · exact ⟨s.noticeRecords_enqueue p _, rfl, rfl⟩

theorem deliverSlot_others (i : SlotId) : (deliverSlot p s i).noticeRecords p = s.noticeRecords p
    ∧ (deliverSlot p s i).chains = s.chains ∧ (deliverSlot p s i).watches = s.watches := by
  obtain ⟨hn, hc, hw⟩ := deliverProducer_others p s i
  obtain ⟨hn', hc', hw'⟩ := deliverConsumer_others p (deliverProducer p s i) i
  exact ⟨hn'.trans hn, hc'.trans hc, hw'.trans hw⟩

theorem deliverChain_others (e : ChainId) : (deliverChain p s e).noticeRecords p = s.noticeRecords p
    ∧ (deliverChain p s e).slots = s.slots ∧ (deliverChain p s e).watches = s.watches := by
  obtain ⟨-, h⟩ | ⟨m, -, -, -, h⟩ := deliverChain_cases p s e <;> rw [h]
  · exact ⟨rfl, rfl, rfl⟩
  · exact ⟨s.noticeRecords_enqueue p _, rfl, rfl⟩

theorem deliverWatch_others (k : WatchId) : (deliverWatch p s k).noticeRecords p = s.noticeRecords p
    ∧ (deliverWatch p s k).slots = s.slots ∧ (deliverWatch p s k).chains = s.chains := by
  obtain ⟨-, h⟩ | ⟨-, -, -, h⟩ := deliverWatch_cases p s k <;> rw [h]
  · exact ⟨rfl, rfl, rfl⟩
  · exact ⟨s.noticeRecords_enqueue p _, rfl, rfl⟩

/-! ### What a step leaves of its own part -/

theorem deliverProducer_slot_of_ne {i j : SlotId} (hj : j ≠ i) : (deliverProducer p s i).slot j = s.slot j := by
  obtain ⟨-, h⟩ | ⟨m, -, -, -, h⟩ := deliverProducer_cases p s i <;> rw [h]
  exact State.modSlot_slot_of_ne _ i j _ hj

theorem deliverConsumer_slot_of_ne {i j : SlotId} (hj : j ≠ i) : (deliverConsumer p s i).slot j = s.slot j := by
  obtain ⟨-, h⟩ | ⟨n, -, -, h⟩ := deliverConsumer_cases p s i <;> rw [h]
  exact State.modSlot_slot_of_ne _ i j _ hj

theorem deliverSlot_slot_of_ne {i j : SlotId} (hj : j ≠ i) : (deliverSlot p s i).slot j = s.slot j :=
  (deliverConsumer_slot_of_ne p _ hj).trans (deliverProducer_slot_of_ne p s hj)

theorem deliverChain_chain_of_ne {e d : ChainId} (hd : d ≠ e) : (deliverChain p s e).chain d = s.chain d := by
  obtain ⟨-, h⟩ | ⟨m, -, -, -, h⟩ := deliverChain_cases p s e <;> rw [h]
  exact State.modChain_chain_of_ne _ e d _ hd

theorem deliverWatch_watch_of_ne {k j : WatchId} (hj : j ≠ k) : (deliverWatch p s k).watch j = s.watch j := by
  obtain ⟨-, h⟩ | ⟨-, -, -, h⟩ := deliverWatch_cases p s k <;> rw [h]
  exact State.modWatch_watch_of_ne _ k j _ hj

end

end Sys2Proof.Machine
end

section
/-! PROOFS. The parts of the delivery in order: the notice set, the slots, the chain entries and the watches (R138). -/

namespace Sys2Proof.Machine

section
variable (p : Port) (s : State)

/-! ### The notice set (R138 part 1) -/

theorem nat_repeat_succ {α : Type} (f : α → α) (n : Nat) (a : α) : Nat.repeat f (n + 1) a = Nat.repeat f n (f a) := by
  induction n with
  | zero => rfl
  | succ n ih => exact congrArg f ih

theorem nat_repeat_of_fixed {α : Type} {f : α → α} {a : α} (h : f a = a) (n : Nat) : Nat.repeat f n a = a :=
  nat_repeat_keeps (P := fun x => x = a) (fun x hx => by rw [hx, h]) n rfl

/-- As many steps as there are notices owed deliver what fits of them. -/
theorem repeat_deliverNotice_delivers {n : Nat} (hn : (s.port p).notices.owedNotices.length ≤ n) :
    State.Delivers p (State.noticeRecords · p) s (Nat.repeat (deliverNotice p) n s) := by
  have hnil {t : State} (h : (t.port p).notices.owedNotices = []) : t.noticeRecords p = [] := by
    rw [State.noticeRecords, h, List.map_nil]
  induction n generalizing s with
  | zero => exact .refl (.inr (hnil (List.length_eq_zero_iff.mp (Nat.le_zero.mp hn))))
  | succ n ih =>
    obtain ⟨hno, h⟩ | ⟨m, ns, hroom, howed, h⟩ := deliverNotice_cases p s
    · rw [nat_repeat_of_fixed h]
      exact .refl (hno.imp id hnil)
    · rw [nat_repeat_succ]
      have hport : (deliverNotice p s).port p =
          { s.port p with queue := (s.port p).queue ++ [.portNotice m], notices := ns } := by
        rw [h, State.modPort_port_self, State.enqueue_port, if_pos rfl]
      have hlen : (State.port (deliverNotice p s) p).notices.owedNotices.length ≤ n := by
        rw [howed] at hn
        rw [hport]
        exact Nat.le_of_succ_le_succ hn
      refine .next (e := .portNotice m) hroom ?_ ?_ (ih _ hlen)
      · simp only [State.noticeRecords, hport, howed, List.map_cons]
      · rw [hport]

/-- The delivery of the port notices. -/
def State.deliverNotices : State := Nat.repeat (deliverNotice p) 8 s

theorem State.deliverNotices_delivers : State.Delivers p (State.noticeRecords · p) s (State.deliverNotices p s) :=
  repeat_deliverNotice_delivers p s (NoticeSet.length_owedNotices_le _)

theorem State.deliverNotices_frame : State.DeliveryFrame p s (State.deliverNotices p s) :=
  nat_repeat_keeps (P := State.DeliveryFrame p s) (fun t ht => ht.trans (deliverNotice_frame p t)) 8 (.refl p s)

theorem State.deliverNotices_marks : (State.deliverNotices p s).slots = s.slots
    ∧ (State.deliverNotices p s).chains = s.chains ∧ (State.deliverNotices p s).watches = s.watches :=
  nat_repeat_keeps (P := fun t : State => t.slots = s.slots ∧ t.chains = s.chains ∧ t.watches = s.watches)
    (fun t ⟨hs, hc, hw⟩ => by
      obtain ⟨hs', hc', hw'⟩ := deliverNotice_marks p t
      exact ⟨hs'.trans hs, hc'.trans hc, hw'.trans hw⟩) 8 ⟨rfl, rfl, rfl⟩

/-! ### One slot, one chain entry, one watch -/

theorem deliverProducer_delivers (i : SlotId) :
    State.Delivers p (State.producerRecords · p i) s (deliverProducer p s i) := by
  obtain ⟨hno, h⟩ | ⟨m, hr, hm, hp, h⟩ := deliverProducer_cases p s i <;> rw [h]
  · exact .refl hno
  · refine .one hr (e := m.notice.event (s.handle i)) ?_ ?_ ?_
    · simp [State.producerRecords, hm, hp]
    · rw [State.producerRecords, State.setProducerMark, State.writeSlot_slot_self]
      rfl
    · exact congrArg PortRec.queue ((s.enqueue_port p p _).trans (if_pos rfl))

theorem deliverConsumer_delivers (i : SlotId) :
    State.Delivers p (State.consumerRecords · p i) s (deliverConsumer p s i) := by
  obtain ⟨hno, h⟩ | ⟨n, hr, hn, h⟩ := deliverConsumer_cases p s i <;> rw [h]
  · exact .refl hno
  · refine .one hr (e := n.event (s.handle i)) ?_ ?_ ?_
    · rw [State.consumerRecords, hn]
      rfl
    · simp [State.consumerRecords, State.setConsumerMark]
    · exact congrArg PortRec.queue ((s.enqueue_port p p _).trans (if_pos rfl))

theorem consumerRecords_deliverProducer (i : SlotId) :
    (deliverProducer p s i).consumerRecords p i = s.consumerRecords p i := by
  obtain ⟨-, h⟩ | ⟨m, -, -, -, h⟩ := deliverProducer_cases p s i <;> rw [h]
  simp [State.consumerRecords, State.setProducerMark, State.handle, State.enqueue]

theorem producerRecords_deliverConsumer (i : SlotId) :
    (deliverConsumer p s i).producerRecords p i = s.producerRecords p i := by
  obtain ⟨-, h⟩ | ⟨n, -, -, h⟩ := deliverConsumer_cases p s i <;> rw [h]
  simp [State.producerRecords, State.setConsumerMark, State.handle, State.enqueue]

theorem deliverSlot_delivers (i : SlotId) : State.Delivers p (State.slotRecords · p i) s (deliverSlot p s i) :=
  (deliverProducer_delivers p s i).append (deliverConsumer_delivers p _ i) (consumerRecords_deliverProducer p s i)
    (producerRecords_deliverConsumer p _ i)

theorem deliverChain_delivers (e : ChainId) : State.Delivers p (State.chainRecords · p e) s (deliverChain p s e) := by
  obtain ⟨hno, h⟩ | ⟨m, hr, hm, ho, h⟩ := deliverChain_cases p s e <;> rw [h]
  · exact .refl hno
  · refine .one hr (e := .chainBroken m.chainId m.failing m.count) ?_ ?_ ?_
    · rw [State.chainRecords, if_pos ho, hm]
      rfl
    · simp [State.chainRecords]
    · exact congrArg PortRec.queue ((s.enqueue_port p p _).trans (if_pos rfl))

theorem deliverWatch_delivers (k : WatchId) : State.Delivers p (State.watchRecords · p k) s (deliverWatch p s k) := by
  obtain ⟨hno, h⟩ | ⟨hr, hst, ho, h⟩ := deliverWatch_cases p s k <;> rw [h]
  · exact .refl (hno.imp id fun hw => if_neg hw)
  · refine .one hr (e := .watchHit k (s.watch k).flag ((s.watch k).held.getD 0)) ?_ ?_ ?_
    · exact if_pos ⟨hst, ho⟩
    · rw [State.watchRecords, State.settleWatch, State.modWatch_watch_self]
      refine if_neg ?_
      split
      · exact fun h => nomatch h.1
      · exact fun h => nomatch h.1
    · exact congrArg PortRec.queue ((s.enqueue_port p p _).trans (if_pos rfl))

end

/-! ### The slots, the chain entries and the watches -/

section
variable (p : Port) (s : State)

theorem foldl_deliverSlot_others (l : List SlotId) : (l.foldl (deliverSlot p) s).noticeRecords p = s.noticeRecords p
    ∧ (l.foldl (deliverSlot p) s).chains = s.chains ∧ (l.foldl (deliverSlot p) s).watches = s.watches :=
  foldl_keeps (P := fun t : State => t.noticeRecords p = s.noticeRecords p ∧ t.chains = s.chains
    ∧ t.watches = s.watches) (fun t i ⟨hn, hc, hw⟩ => by
      obtain ⟨hn', hc', hw'⟩ := deliverSlot_others p t i
      exact ⟨hn'.trans hn, hc'.trans hc, hw'.trans hw⟩) l ⟨rfl, rfl, rfl⟩

theorem foldl_deliverChain_others (l : List ChainId) :
    (l.foldl (deliverChain p) s).noticeRecords p = s.noticeRecords p
      ∧ (l.foldl (deliverChain p) s).slots = s.slots ∧ (l.foldl (deliverChain p) s).watches = s.watches :=
  foldl_keeps (P := fun t : State => t.noticeRecords p = s.noticeRecords p ∧ t.slots = s.slots
    ∧ t.watches = s.watches) (fun t e ⟨hn, hc, hw⟩ => by
      obtain ⟨hn', hc', hw'⟩ := deliverChain_others p t e
      exact ⟨hn'.trans hn, hc'.trans hc, hw'.trans hw⟩) l ⟨rfl, rfl, rfl⟩

theorem foldl_deliverWatch_others (l : List WatchId) :
    (l.foldl (deliverWatch p) s).noticeRecords p = s.noticeRecords p
      ∧ (l.foldl (deliverWatch p) s).slots = s.slots ∧ (l.foldl (deliverWatch p) s).chains = s.chains :=
  foldl_keeps (P := fun t : State => t.noticeRecords p = s.noticeRecords p ∧ t.slots = s.slots
    ∧ t.chains = s.chains) (fun t k ⟨hn, hc, hw⟩ => by
      obtain ⟨hn', hc', hw'⟩ := deliverWatch_others p t k
      exact ⟨hn'.trans hn, hc'.trans hc, hw'.trans hw⟩) l ⟨rfl, rfl, rfl⟩

theorem foldl_deliverSlot_delivers : State.Delivers p (fun u => allSlots.flatMap (u.slotRecords p)) s
    (allSlots.foldl (deliverSlot p) s) :=
  .foldl (r := fun u => u.slotRecords p) (fun s i => deliverSlot_delivers p s i)
    (fun s _ _ hj => State.slotRecords_congr (deliverSlot_slot_of_ne p s hj)) (List.nodup_finRange 256) s

theorem foldl_deliverChain_delivers : State.Delivers p (fun u => allChains.flatMap (u.chainRecords p)) s
    (allChains.foldl (deliverChain p) s) :=
  .foldl (r := fun u => u.chainRecords p) (fun s e => deliverChain_delivers p s e)
    (fun s _ _ hd => State.chainRecords_congr (deliverChain_chain_of_ne p s hd)) (List.nodup_finRange 64) s

theorem foldl_deliverWatch_delivers {l : List WatchId} (hl : l.Nodup) :
    State.Delivers p (fun u => l.flatMap (u.watchRecords p)) s (l.foldl (deliverWatch p) s) :=
  .foldl (r := fun u => u.watchRecords p) (fun s k => deliverWatch_delivers p s k)
    (fun s _ _ hj => State.watchRecords_congr (deliverWatch_watch_of_ne p s hj)) hl s

end

end Sys2Proof.Machine
end

section
/-! PROOFS. The whole delivery (R134, R138): its parts one after the other, the marks of a slot, the visit of a watch
entry, and the statement. -/

namespace Sys2Proof.Machine

/-! ### The parts together -/

section
variable {s t : State} (p : Port)

theorem State.slotRecords_of_slots (h : t.slots = s.slots) : t.slotRecords p = s.slotRecords p :=
  funext fun i => State.slotRecords_congr (State.slot_eq_of_slots h i)

theorem State.chainRecords_of_chains (h : t.chains = s.chains) : t.chainRecords p = s.chainRecords p :=
  funext fun e => State.chainRecords_congr (by rw [State.chain, h, State.chain])

theorem State.watchRecords_of_watches (h : t.watches = s.watches) : t.watchRecords p = s.watchRecords p :=
  funext fun k => State.watchRecords_congr (by rw [State.watch, h, State.watch])

end

section
variable (p : Port) (s : State)

/-- The delivery up to the chain entries. -/
def State.deliverMarks : State := allChains.foldl (deliverChain p) (allSlots.foldl (deliverSlot p) (s.deliverNotices p))

theorem State.deliver_eq : s.deliver p = allWatches.foldl (deliverWatch p) (s.deliverMarks p) := rfl

/-- The records owed before those of the watches. -/
def State.markRecords : List Event :=
  s.noticeRecords p ++ allSlots.flatMap (s.slotRecords p) ++ allChains.flatMap (s.chainRecords p)

theorem State.deliverMarks_delivers : State.Delivers p (State.markRecords p) s (s.deliverMarks p) := by
  obtain ⟨hs, hc, -⟩ := s.deliverNotices_marks p
  have h1 := s.deliverNotices_delivers p
  unfold State.deliverMarks
  generalize s.deliverNotices p = t at *
  obtain ⟨hn', hc', -⟩ := foldl_deliverSlot_others p t allSlots
  have h2 := foldl_deliverSlot_delivers p t
  generalize allSlots.foldl (deliverSlot p) t = u at *
  obtain ⟨hn'', hs'', -⟩ := foldl_deliverChain_others p u allChains
  have h3 := foldl_deliverChain_delivers p u
  generalize allChains.foldl (deliverChain p) u = v at *
  refine (h1.append h2 ?_ hn').append h3 ?_ ?_
  · rw [State.slotRecords_of_slots p hs]
  · rw [State.chainRecords_of_chains p (hc'.trans hc)]
  · rw [hn'', State.slotRecords_of_slots p hs'']

theorem State.deliverMarks_watches : (s.deliverMarks p).watches = s.watches := by
  obtain ⟨-, -, hw⟩ := s.deliverNotices_marks p
  obtain ⟨-, -, hw'⟩ := foldl_deliverSlot_others p (s.deliverNotices p) allSlots
  obtain ⟨-, -, hw''⟩ := foldl_deliverChain_others p (allSlots.foldl (deliverSlot p) (s.deliverNotices p)) allChains
  exact hw''.trans (hw'.trans hw)

theorem State.deliverMarks_frame : State.DeliveryFrame p s (s.deliverMarks p) := by
  unfold State.deliverMarks
  exact foldl_keeps (fun t e ht => ht.trans (deliverChain_frame p t e)) _
    (foldl_keeps (fun t i ht => ht.trans (deliverSlot_frame p t i)) _ (s.deliverNotices_frame p))

theorem foldl_deliverWatch_frame (l : List WatchId) : State.DeliveryFrame p s (l.foldl (deliverWatch p) s) :=
  foldl_keeps (fun t k ht => ht.trans (deliverWatch_frame p t k)) l (.refl p s)

theorem State.deliver_frame : State.DeliveryFrame p s (s.deliver p) := by
  rw [State.deliver_eq]
  exact (s.deliverMarks_frame p).trans (foldl_deliverWatch_frame p _ allWatches)

/-- Delivery as far as the watches of a list delivers what is owed as far as those watches. -/
theorem foldl_deliverWatch_deliverMarks {l : List WatchId} (hl : l.Nodup) :
    State.Delivers p (fun u => u.markRecords p ++ l.flatMap (u.watchRecords p)) s
      (l.foldl (deliverWatch p) (s.deliverMarks p)) := by
  obtain ⟨hn, hs, hc⟩ := foldl_deliverWatch_others p (s.deliverMarks p) l
  refine (s.deliverMarks_delivers p).append (foldl_deliverWatch_delivers p _ hl) ?_ ?_
  · rw [State.watchRecords_of_watches p (s.deliverMarks_watches p)]
  · rw [State.markRecords, State.markRecords, hn, State.slotRecords_of_slots p hs, State.chainRecords_of_chains p hc]

/-- The delivery delivers all that is owed, as far as it fits (R134, R138). -/
theorem State.deliver_delivers : State.Delivers p (State.owedRecords · p) s (s.deliver p) := by
  rw [State.deliver_eq]
  exact foldl_deliverWatch_deliverMarks p s (List.nodup_finRange 16)

/-! ### Owed marks and owed records -/

theorem NoticeSet.any_eq_true_iff (ns : NoticeSet) : ns.any = true ↔ ns.owedNotices ≠ [] := by
  have hbit (b : Bool) (n : PortNotice) : (if b then [n] else []) = [] ↔ b = false := by cases b <;> simp
  have hopt {α : Type} (o : Option α) (f : α → PortNotice) : (o.map f).toList = [] ↔ o = none := by cases o <;> simp
  rw [← Bool.not_eq_false, ne_eq, not_iff_not]
  simp only [NoticeSet.any, NoticeSet.owedNotices, List.append_eq_nil_iff, hbit, hopt, Bool.or_eq_false_iff,
    Option.isSome_eq_false_iff, Option.isNone_iff_eq_none]

theorem State.slotRecords_ne_nil_iff (i : SlotId) :
    s.slotRecords p i ≠ [] ↔ (s.slot i).owesProducer p = true ∨ (s.slot i).owesConsumer p = true := by
  have hp : s.producerRecords p i ≠ [] ↔ (s.slot i).owesProducer p = true := by
    cases hm : (s.slot i).producerMark <;> simp [State.producerRecords, Slot.owesProducer, hm]
  have hc : s.consumerRecords p i ≠ [] ↔ (s.slot i).owesConsumer p = true := by
    cases hn : (s.slot i).consumerMarks[p] <;> simp [State.consumerRecords, Slot.owesConsumer, hn]
  rw [State.slotRecords_eq, ← hp, ← hc, ne_eq, List.append_eq_nil_iff, not_and_or]

theorem State.chainRecords_ne_nil_iff (e : ChainId) : s.chainRecords p e ≠ [] ↔ (s.chain e).owes p = true := by
  by_cases ho : (s.chain e).owner = some p <;> cases hm : (s.chain e).owed <;>
    simp [State.chainRecords, ChainEntry.owes, ho, hm]

theorem State.watchRecords_ne_nil_iff (k : WatchId) : s.watchRecords p k ≠ [] ↔ (s.watch k).owes p = true := by
  simp [State.watchRecords, Watch.owes]

/-- A mark is owed to the port exactly when a record is. -/
theorem State.owed_iff_owedRecords : s.owed p = true ↔ s.owedRecords p ≠ [] := by
  rw [State.owed_iff, State.owedRecords_eq, NoticeSet.any_eq_true_iff]
  simp only [← State.slotRecords_ne_nil_iff, ← State.chainRecords_ne_nil_iff, ← State.watchRecords_ne_nil_iff]
  simp only [ne_eq, List.append_eq_nil_iff, State.noticeRecords, List.map_eq_nil_iff, List.flatMap_eq_nil_iff,
    not_and_or, not_forall, allSlots, allChains, allWatches, List.mem_finRange, true_imp_iff, or_assoc]

/-! ### Nothing owed -/

theorem deliverSlot_of_nil {i : SlotId} (h : s.slotRecords p i = []) : deliverSlot p s i = s := by
  rw [State.slotRecords_eq, List.append_eq_nil_iff] at h
  obtain ⟨hp, hc⟩ := h
  have h1 : deliverProducer p s i = s := by
    obtain ⟨-, h⟩ | ⟨m, -, hm, hport, -⟩ := deliverProducer_cases p s i
    · exact h
    · simp [State.producerRecords, hm, hport] at hp
  rw [deliverSlot, h1]
  obtain ⟨-, h⟩ | ⟨n, -, hn, -⟩ := deliverConsumer_cases p s i
  · exact h
  · rw [State.consumerRecords, hn] at hc
    exact nomatch hc

theorem deliverChain_of_nil {e : ChainId} (h : s.chainRecords p e = []) : deliverChain p s e = s := by
  obtain ⟨-, h'⟩ | ⟨m, -, hm, ho, -⟩ := deliverChain_cases p s e
  · exact h'
  · simp [State.chainRecords, hm, ho] at h

theorem deliverWatch_of_nil {k : WatchId} (h : s.watchRecords p k = []) : deliverWatch p s k = s := by
  obtain ⟨-, h'⟩ | ⟨-, hst, ho, -⟩ := deliverWatch_cases p s k
  · exact h'
  · simp [State.watchRecords, hst, ho] at h

theorem deliverNotice_of_nil (h : (s.port p).notices.owedNotices = []) : deliverNotice p s = s := by
  obtain ⟨-, h'⟩ | ⟨m, ns, -, howed, -⟩ := deliverNotice_cases p s
  · exact h'
  · rw [howed] at h
    exact nomatch h

/-- With nothing owed a delivery changes nothing. -/
theorem State.deliver_of_not_owed (h : s.owed p = false) : s.deliver p = s := by
  rw [← Bool.not_eq_true, State.owed_iff_owedRecords, ne_eq, not_not, State.owedRecords_eq] at h
  simp only [List.append_eq_nil_iff, List.flatMap_eq_nil_iff, State.noticeRecords, List.map_eq_nil_iff] at h
  obtain ⟨⟨⟨hn, hs⟩, hc⟩, hw⟩ := h
  have h1 : s.deliverNotices p = s := nat_repeat_of_fixed (deliverNotice_of_nil p s hn) 8
  have h2 : allSlots.foldl (deliverSlot p) s = s :=
    foldl_keeps (P := fun t : State => t = s)
      (fun t i ht => by rw [ht, deliverSlot_of_nil p s (hs i (List.mem_finRange i))]) allSlots rfl
  have h3 : allChains.foldl (deliverChain p) s = s :=
    foldl_keeps (P := fun t : State => t = s)
      (fun t e ht => by rw [ht, deliverChain_of_nil p s (hc e (List.mem_finRange e))]) allChains rfl
  have h4 : allWatches.foldl (deliverWatch p) s = s :=
    foldl_keeps (P := fun t : State => t = s)
      (fun t k ht => by rw [ht, deliverWatch_of_nil p s (hw k (List.mem_finRange k))]) allWatches rfl
  rw [State.deliver_eq, State.deliverMarks, h1, h2, h3, h4]

/-! ### The marks of a slot (R135) -/

/-- From one record of a slot to another marks are taken away at most, which is a write of the record (R13). -/
def Slot.LosesMarks (sl sl' : Slot) : Prop :=
  sl' = { sl with
    checkOk := sl.checkOk || decide (sl'.producerMark ≠ sl.producerMark)
      || decide (sl'.consumerMarks ≠ sl.consumerMarks)
    producerMark := sl'.producerMark, consumerMarks := sl'.consumerMarks }

theorem Slot.LosesMarks.refl (sl : Slot) : sl.LosesMarks sl := by simp [Slot.LosesMarks]

/-- A write of the record that changes its marks, and nothing else. -/
theorem Slot.LosesMarks.of_ne {sl : Slot} {m : Option ProducerMark} {c : Vector (Option ConsumerNotice) 4}
    (h : m ≠ sl.producerMark ∨ c ≠ sl.consumerMarks) :
    sl.LosesMarks { sl with checkOk := true, producerMark := m, consumerMarks := c } := by
  have hchanged : (decide (m ≠ sl.producerMark) || decide (c ≠ sl.consumerMarks)) = true := by
    rwa [Bool.or_eq_true, decide_eq_true_iff, decide_eq_true_iff]
  simp only [Slot.LosesMarks, Bool.or_assoc, hchanged, Bool.or_true]

theorem Slot.consumerMarks_set_ne {marks : Vector (Option ConsumerNotice) 4} {n : ConsumerNotice}
    (h : marks[p] = some n) : marks.set p none ≠ marks := fun hset => by
  have hp : (marks.set p none)[p] = none := Vector.getElem_set_self p.isLt
  rw [hset, h] at hp
  exact nomatch hp

theorem deliverSlot_losesMarks (i : SlotId) : (s.slot i).LosesMarks ((deliverSlot p s i).slot i) := by
  have hproducer : (deliverProducer p s i).slot i = s.slot i ∨ ∃ m, (s.slot i).producerMark = some m
      ∧ (deliverProducer p s i).slot i = { s.slot i with checkOk := true, producerMark := none } := by
    obtain ⟨-, h⟩ | ⟨m, -, hm, -, h⟩ := deliverProducer_cases p s i <;> rw [h]
    · exact .inl rfl
    · exact .inr ⟨m, hm, State.writeSlot_slot_self _ i _⟩
  have hconsumer : (deliverSlot p s i).slot i = (deliverProducer p s i).slot i
      ∨ ∃ n, ((deliverProducer p s i).slot i).consumerMarks[p] = some n
        ∧ (deliverSlot p s i).slot i = { (deliverProducer p s i).slot i with
          checkOk := true, consumerMarks := ((deliverProducer p s i).slot i).consumerMarks.set p none } := by
    rw [deliverSlot]
    obtain ⟨-, h⟩ | ⟨n, -, hn, h⟩ := deliverConsumer_cases p (deliverProducer p s i) i <;> rw [h]
    · exact .inl rfl
    · exact .inr ⟨n, hn, State.writeSlot_slot_self _ i _⟩
  obtain hc | ⟨n, hn, hc⟩ := hconsumer <;> rw [hc] <;> obtain hp | ⟨m, hm, hp⟩ := hproducer
  · rw [hp]
    exact .refl _
  · rw [hp]
    exact .of_ne (.inl (by rw [hm]; exact nofun))
  · rw [hp] at hn ⊢
    exact .of_ne (.inr (Slot.consumerMarks_set_ne p hn))
  · rw [hp]
    exact .of_ne (.inl (by rw [hm]; exact nofun))

theorem State.deliver_losesMarks (i : SlotId) : (s.slot i).LosesMarks ((s.deliver p).slot i) := by
  obtain ⟨l, l', hl⟩ := List.append_of_mem (List.mem_finRange i)
  have hnodup := List.nodup_finRange 256
  obtain ⟨hs, -, -⟩ := s.deliverNotices_marks p
  obtain ⟨-, hs', -⟩ := foldl_deliverChain_others p (allSlots.foldl (deliverSlot p) (s.deliverNotices p)) allChains
  obtain ⟨-, hs'', -⟩ := foldl_deliverWatch_others p (s.deliverMarks p) allWatches
  rw [State.deliver_eq, State.slot_eq_of_slots (hs''.trans hs'), allSlots, hl]
  rw [hl] at hnodup
  obtain ⟨hbefore, hafter⟩ := foldl_visit (f := deliverSlot p) (read := State.slot)
    (fun t _ _ hj => deliverSlot_slot_of_ne p t hj) hnodup (s.deliverNotices p)
  rw [hafter, ← State.slot_eq_of_slots hs i, ← hbefore]
  exact deliverSlot_losesMarks p _ i

/-! ### The visit of a watch entry (R125) -/

/-- The watches in order, those before an entry, the entry and those after it. -/
theorem allWatches_split (k : WatchId) :
    allWatches = (allWatches.filter fun x => x.val < k.val) ++ k :: allWatches.filter fun x => k.val < x.val := by
  revert k
  decide

/-- The delivery comes to a watch entry as it was before, after the records owed before it. -/
theorem State.deliver_visit (k : WatchId) : ∃ u : State, u.watch k = s.watch k ∧ u.words = s.words
    ∧ (u.port p).queue = (s.port p).queue
      ++ (s.markRecords p ++ (allWatches.filter fun x => x.val < k.val).flatMap (s.watchRecords p)).take
        (32 - (s.port p).queue.length)
    ∧ (s.deliver p).watch k = (deliverWatch p u k).watch k := by
  have hnodup : allWatches.Nodup := List.nodup_finRange 16
  have hbeforeNodup := hnodup.filter fun x => decide (x.val < k.val)
  have hsplit := allWatches_split k
  rw [hsplit] at hnodup
  obtain ⟨hbefore, hafter⟩ := foldl_visit (f := deliverWatch p) (read := State.watch)
    (fun t _ _ hj => deliverWatch_watch_of_ne p t hj) hnodup (s.deliverMarks p)
  have hwatch : (s.deliverMarks p).watch k = s.watch k := by
    rw [State.watch, s.deliverMarks_watches p, State.watch]
  refine ⟨_, hbefore.trans hwatch, ?_, (foldl_deliverWatch_deliverMarks p s hbeforeNodup).queue, ?_⟩
  · rw [((s.deliverMarks_frame p).trans (foldl_deliverWatch_frame p _ _)).rest]
  · rw [State.deliver_eq, ← hafter, ← hsplit]

/-- A watch entry whose hit is delivered, and one whose hit is not (R125). -/
theorem State.deliver_watch (k : WatchId) :
    let w := s.watch k
    let before := (s.markRecords p ++ (allWatches.filter fun x => x.val < k.val).flatMap (s.watchRecords p)).length
    let delivered := w.state = .pending ∧ w.owner = some p ∧ before < 32 - (s.port p).queue.length
    (¬ delivered → (s.deliver p).watch k = w)
      ∧ (delivered → w.mode = .once → (s.deliver p).watch k = Watch.cleared)
      ∧ (delivered → w.mode = .persist → (s.deliver p).watch k =
        { w with state := .armed, held := none, lastMatched := w.matchesValue (s.flagWord w.flag) }) := by
  dsimp only
  obtain ⟨u, hw, hwords, hq, hvisit⟩ := s.deliver_visit p k
  have hroom : u.queueRoom p = true ↔ (s.markRecords p
      ++ (allWatches.filter fun x => x.val < k.val).flatMap (s.watchRecords p)).length
        < 32 - (s.port p).queue.length := by
    rw [State.queueRoom_iff, hq, List.length_append, List.length_take]
    omega
  rw [hvisit, ← hroom, ← hw]
  have hflag : s.flagWord (u.watch k).flag = u.flagWord (u.watch k).flag := by
    rw [State.flagWord, ← hwords, State.flagWord]
  rw [hflag]
  obtain ⟨hno, h⟩ | ⟨hr, hst, ho, h⟩ := deliverWatch_cases p u k <;> rw [h]
  · have hnot : ¬ ((u.watch k).state = .pending ∧ (u.watch k).owner = some p ∧ u.queueRoom p = true) :=
      fun ⟨hst, ho, hr⟩ => hno.elim (fun hf => by rw [hf] at hr; exact nomatch hr) fun hn => hn ⟨hst, ho⟩
    exact ⟨fun _ => rfl, fun hd => absurd hd hnot, fun hd => absurd hd hnot⟩
  · refine ⟨fun hd => absurd ⟨hst, ho, hr⟩ hd, fun _ hm => ?_, fun _ hm => ?_⟩ <;>
      simp [State.settleWatch, State.enqueue, hm]

end

/-- Settles O51: the parts of the delivery deliver their records in order, and change nothing else. -/
theorem owedMarksAreDeliveredInOrder : Obligations.OwedMarksAreDeliveredInOrder := by
  unfold Obligations.OwedMarksAreDeliveredInOrder
  intro s p hlen
  have hdel := s.deliver_delivers p
  have hframe := s.deliver_frame p
  refine ⟨hdel.queue, hdel.left, ?_, s.deliver_of_not_owed p, hframe.own,
    fun x hx => ⟨hframe.port x hx, hframe.owedRecords hx⟩, s.deliver_losesMarks p, hframe.chain,
    s.deliver_watch p, hframe.rest⟩
  rw [← Bool.not_eq_true, State.owed_iff_owedRecords, hdel.left, hdel.queue, ne_eq, not_not, List.drop_eq_nil_iff,
    List.length_append, List.length_take]
  omega

end Sys2Proof.Machine
end

section
/-! PROOFS. The law of the manager claim and HOLD (R154, R159, R160, R182) is a law in the sense of the shared
operations, and every change that no law covers keeps it too: a claim is given to a JOINED port, HOLD is set by the
manager, and a port that stops being JOINED has dropped its claim before. -/

namespace Sys2Proof.Machine

/-- A port's state is admitted and no departure of it is in progress (R147). -/
theorem State.admits_iff (s : State) (p : Port) (l : List PortState) :
    s.admits p l = true ↔ (s.port p).departure = none ∧ (s.port p).state ∈ l := by
  simp [State.admits, State.departing]

theorem State.isManager_iff (s : State) (p : Port) : s.isManager p = true ↔ s.manager = some p := beq_iff_eq

/-! ### Checks that a command has passed (R147) -/

section
variable {P : State → Prop} {s : State} (h : P s)
include h

/-- A check that refuses keeps what the command keeps where it passes. -/
theorem guard_keeps_passed {b : Bool} {st : Status} {k : Taken} (hk : b = true → P k.1) :
    P (if !b then refuse st s else k).1 := by
  cases hb : b
  · exact h
  · exact hk hb

/-- A manager command acts for the manager alone. -/
theorem managerCommand_keeps_claimed {α : Type} {p : Port} {params : Option α} {k : α → Taken}
    (hk : s.manager = some p → ∀ a, P (k a).1) : P (managerCommand p params s k).1 := by
  unfold managerCommand
  refine guard_keeps h (guard_keeps_passed h fun hm => ?_)
  split
  · exact h
  · exact hk ((s.isManager_iff p).mp hm) _

end

/-! ### Changes that keep the law -/

section
variable {s t : State} (h : s.claimLaw)
include h

/-- The law is about the claim, HOLD, and the ports' states and departures alone. -/
theorem State.claimLaw.congr (hm : t.manager = s.manager) (hh : t.hold = s.hold)
    (hp : ∀ x, (t.port x).state = (s.port x).state ∧ (t.port x).departure = (s.port x).departure) : t.claimLaw := by
  simpa only [State.claimLaw, hm, hh, hp] using h

theorem State.claimLaw.of_ports (ht : t.ports = s.ports) (hm : t.manager = s.manager) (hh : t.hold = s.hold) :
    t.claimLaw := h.congr hm hh fun x => by simp only [State.port, ht, and_self]

/-- A change of one port record that leaves the manager JOINED and a departing port LEAVING. -/
theorem State.claimLaw.modPort (p : Port) {f : PortRec → PortRec}
    (hj : s.manager = some p → (f (s.port p)).state = .joined)
    (hl : (f (s.port p)).departure.isSome = true → (f (s.port p)).state = .leaving) : (s.modPort p f).claimLaw := by
  obtain ⟨hjoined, hhold, hleaving⟩ := h
  refine ⟨fun x hx => ?_, hhold, fun x => ?_⟩
  · rw [State.modPort_port]
    split
    next e => subst e; exact hj hx
    next => exact hjoined x hx
  · rw [State.modPort_port]
    split
    · exact hl
    · exact hleaving x

/-- A change of one port record that its state and departure do not show. -/
theorem State.claimLaw.modPort_unseen (p : Port) {f : PortRec → PortRec}
    (hf : ∀ r, (f r).state = r.state ∧ (f r).departure = r.departure) : (s.modPort p f).claimLaw := by
  obtain ⟨hst, hdep⟩ := hf (s.port p)
  exact h.modPort p (fun hm => hst.trans (h.1 p hm)) fun hd => by
    rw [hdep] at hd
    rw [hst]
    exact h.2.2 p hd

/-- A change of a port's departure in progress that does not end it. -/
theorem State.claimLaw.modDeparture (p : Port) (f : Departure → Departure) :
    (s.modPort p fun r => { r with departure := r.departure.map f }).claimLaw :=
  h.modPort p (h.1 p) fun hd => h.2.2 p (by simpa using hd)

/-- A change of every port record alike that leaves JOINED ports JOINED and departing ports LEAVING. -/
theorem State.claimLaw.mapPorts {f : PortRec → PortRec} (ht : t.ports = mapV f s.ports)
    (hm : t.manager = s.manager) (hh : t.hold = s.hold) (hj : ∀ r, r.state = .joined → (f r).state = .joined)
    (hl : ∀ r, (r.departure.isSome = true → r.state = .leaving) →
      (f r).departure.isSome = true → (f r).state = .leaving) : t.claimLaw := by
  have hport (x : Port) : t.port x = f (s.port x) := by simp [State.port, ht]
  obtain ⟨hjoined, hhold, hleaving⟩ := h
  refine ⟨fun x hx => ?_, by rwa [hh, hm], fun x => ?_⟩
  · rw [hport]
    exact hj _ (hjoined x (hm ▸ hx))
  · rw [hport]
    exact hl _ (hleaving x)

end

/-- The law is kept by all that the shared operations do. -/
theorem claimLaw_law : Law State.claimLaw where
  rest := fun h hp hm hh _ _ _ => h.of_ports hp hm hh
  quiet := fun hf h => h.modPort_unseen _ fun r => ⟨(hf r).2.1, (hf r).2.2.1⟩
  enqueue := fun _ h => h.modPort_unseen _ fun _ => ⟨rfl, rfl⟩
  idle := fun {_ p} h hst _ => ⟨h.modPort_unseen p fun _ => ⟨rfl, rfl⟩,
    h.modPort p (fun hm => absurd (hst.symm.trans (h.1 p hm)) nofun) nofun⟩
  unseen := fun hf h => h.modPort_unseen _ fun r => ⟨(hf r).1, (hf r).2.1⟩

/-! ### Sessions -/

section
variable {s : State} (h : s.claimLaw)
include h

theorem State.claimLaw.dropClaim : s.dropClaim.claimLaw := by
  have h0 : State.claimLaw { s with manager := none, hold := false } := ⟨nofun, nofun, h.2.2⟩
  rw [State.dropClaim_eq]
  refine claimLaw_law.notifyJoined _ ?_
  split
  · exact claimLaw_law.notifyJoined _ h0
  · exact h0

/-- A port that drops the claim, if it holds it, is not the manager. -/
theorem State.claimLaw.dropClaimIf (p : Port) :
    (if s.isManager p then s.dropClaim else s).claimLaw
      ∧ (if s.isManager p then s.dropClaim else s).manager ≠ some p := by
  split
  · refine ⟨h.dropClaim, ?_⟩
    rw [State.dropClaim_rest]
    exact nofun
  next hm => exact ⟨h, fun hs => hm ((s.isManager_iff p).mpr hs)⟩

theorem State.claimLaw.beginDeparture (p : Port) (c : DepCause) (o : OrphanPolicy) (a : Option Port) :
    (s.beginDeparture p c o a).claimLaw := by
  obtain ⟨h1, hm⟩ := h.dropClaimIf p
  exact h1.modPort p (fun hs => absurd hs hm) fun _ => rfl

theorem joinBody_claimLaw (p : Port) (ps : List Byte) : (joinBody p ps s).1.claimLaw := by
  unfold joinBody
  refine guard_keeps_passed h fun ha => ?_
  split
  · exact h
  next j _ =>
    have hdep := ((s.admits_iff p _).mp ha).1
    have K := claimLaw_law.toKept.and (kept_session p (s.port p).state none)
    have h1 := K.quiet (p := p)
      (f := fun r => { r with roles := j.roles, credits := j.credits, mask := j.mask, floor := j.floor })
      (fun _ => ⟨rfl, rfl, rfl, rfl, rfl, rfl, rfl, rfl, rfl, rfl⟩) ⟨h, rfl, hdep⟩
    obtain ⟨h2, -, hd⟩ := foldl_keeps
      (P := fun t : State => t.claimLaw ∧ (t.port p).state = (s.port p).state ∧ (t.port p).departure = none)
      (fun _ i ht => K.undecline p i ht) allSlots h1
    refine accepted_keeps (claimLaw_law.closeIf claimLaw_law.idle _ (h2.modPort p (fun _ => rfl) ?_)) _
    dsimp only
    rw [hd]
    exact nofun

theorem setServiceBody_claimLaw (p : Port) (ps : List Byte) : (setServiceBody p ps s).1.claimLaw := by
  unfold setServiceBody
  refine guard_keeps h (guard_keeps h ?_)
  split
  · exact h
  · exact h.modPort_unseen p fun _ => ⟨rfl, rfl⟩

theorem leaveDrain_claimLaw (p : Port) : (leaveDrain p s).1.claimLaw := by
  obtain ⟨h1, hm⟩ := h.dropClaimIf p
  have h2 := h1.modPort p (f := fun r => { r with state := .leaving }) (fun hs => absurd hs hm) fun _ => rfl
  exact accepted_keeps (claimLaw_law.close claimLaw_law.idle (claimLaw_law.withdrawOffers p true h2)) _

theorem leaveBody_claimLaw (p : Port) (ps : List Byte) : (leaveBody p ps s).1.claimLaw := by
  unfold leaveBody
  refine guard_keeps h ?_
  split
  · exact h
  · exact leaveDrain_claimLaw h p
  · exact h.beginDeparture p _ _ _

theorem portStatusBody_claimLaw (p : Port) (ps : List Byte) : (portStatusBody p ps s).1.claimLaw := by
  unfold portStatusBody
  refine guard_keeps h (guard_keeps h ?_)
  split <;> exact h

/-- The claim is given to a JOINED port (R159). -/
theorem claimManagerBody_claimLaw (p : Port) (ps : List Byte) : (claimManagerBody p ps s).1.claimLaw := by
  unfold claimManagerBody
  refine guard_keeps_passed h fun ha => ?_
  split
  · exact h
  · split
    · have hj : (s.port p).state = .joined := List.mem_singleton.mp ((s.admits_iff p _).mp ha).2
      have h1 : State.claimLaw { s with manager := some p } :=
        ⟨fun x hx => by cases hx; exact hj, fun _ => rfl, h.2.2⟩
      exact accepted_keeps (claimLaw_law.notifyJoined _ h1) _
    · split <;> exact h

theorem releaseManagerBody_claimLaw (p : Port) (ps : List Byte) : (releaseManagerBody p ps s).1.claimLaw := by
  unfold releaseManagerBody
  refine guard_keeps h (guard_keeps h ?_)
  split
  · exact h
  · exact accepted_keeps h.dropClaim _

theorem evictBody_claimLaw (p : Port) (ps : List Byte) : (evictBody p ps s).1.claimLaw :=
  managerCommand_keeps h fun _ => guard_keeps h (h.beginDeparture _ _ _ _)

/-! ### FETCH and READ_COUNTS -/

theorem fetchBody_claimLaw (p : Port) (ps : List Byte) : (fetchBody p ps s).1.claimLaw := by
  unfold fetchBody
  refine guard_keeps h ?_
  split
  · exact h
  · refine accepted_keeps (claimLaw_law.closeSlots (claimLaw_law.deliver p ?_)) _
    exact h.modPort_unseen p fun _ => ⟨rfl, rfl⟩

theorem readCountsBody_claimLaw (p : Port) (ps : List Byte) : (readCountsBody p ps s).1.claimLaw := by
  unfold readCountsBody
  refine guard_keeps h ?_
  split <;> exact h

/-! ### Device control -/

/-- HOLD is set by the manager (R182). -/
theorem holdBody_claimLaw (p : Port) (ps : List Byte) : (holdBody p ps s).1.claimLaw := by
  refine managerCommand_keeps_claimed h fun hm _ => accepted_keeps ?_ _
  have h1 : State.claimLaw { s with hold := true } := ⟨h.1, fun _ => Option.isSome_of_eq_some hm, h.2.2⟩
  split
  · exact h
  · exact claimLaw_law.notifyJoined _ h1

theorem resumeBody_claimLaw (p : Port) (ps : List Byte) : (resumeBody p ps s).1.claimLaw := by
  have h1 : State.claimLaw { s with hold := false } := ⟨h.1, nofun, h.2.2⟩
  refine managerCommand_keeps h fun _ => accepted_keeps ?_ _
  split
  · exact claimLaw_law.notifyJoined _ h1
  · exact h

theorem State.claimLaw.setPolicy (c : ClassId) (r : ClassPolicy) : (s.setPolicy c r).claimLaw := by
  unfold State.setPolicy
  dsimp only
  split <;> exact h.of_ports rfl rfl rfl

theorem setClassPolicyBody_claimLaw (p : Port) (ps : List Byte) : (setClassPolicyBody p ps s).1.claimLaw :=
  managerCommand_keeps h fun _ => guard_keeps h (accepted_keeps (h.setPolicy _ _) _)

/-! ### CLEAR_ALL (R186) -/

theorem interruptScan_claimLaw (p : Port) : (interruptScan s p).claimLaw := by
  unfold interruptScan
  split
  · refine claimLaw_law.answerInFlight ?_ p _
    exact h.modPort_unseen p fun _ => ⟨rfl, rfl⟩
  · exact h

theorem freeDrained_claimLaw (p : Port) : (freeDrained s p).claimLaw := by
  unfold freeDrained
  split
  · exact claimLaw_law.freeWatches p h
  · exact h

theorem State.claimLaw.clearWatch (k : WatchId) : (s.clearWatch k).claimLaw := by
  unfold State.clearWatch
  split
  · exact claimLaw_law.settleWatch k h
  · exact h

omit h in
/-- CLEAR_ALL moves no port but one whose drain it ends, and ends no departure (R162). -/
theorem PortRec.clear_session (r : PortRec) : r.clear.departure = r.departure
    ∧ (r.clear.state = r.state ∨ r.state = .leaving ∧ r.departure = none) := by
  unfold PortRec.clear
  dsimp only
  split
  next hd =>
    simp only [PortRec.draining, Bool.and_eq_true, beq_iff_eq, Option.isNone_iff_eq_none] at hd
    exact ⟨hd.2.symm, .inr hd⟩
  next => exact ⟨rfl, .inl rfl⟩

theorem State.claimLaw.clearAll : s.clearAll.claimLaw := by
  have h1 := foldl_keeps (P := State.claimLaw) (fun _ p ht => interruptScan_claimLaw ht p) allPorts h
  have h2 := foldl_keeps (P := State.claimLaw) (fun _ p ht => freeDrained_claimLaw ht p) allPorts h1
  have h3 := foldl_keeps (P := State.claimLaw) (fun _ k ht => State.claimLaw.clearWatch ht k) allWatches h2
  unfold State.clearAll
  dsimp only
  generalize allWatches.foldl State.clearWatch _ = t at h3 ⊢
  refine State.claimLaw.mapPorts h3 (f := PortRec.clear) rfl rfl rfl (fun r hj => ?_) fun r hl hd => ?_
  · obtain ⟨-, hst | ⟨hst, -⟩⟩ := r.clear_session
    · exact hst.trans hj
    · exact absurd (hst.symm.trans hj) nofun
  · obtain ⟨hdep, hst | ⟨-, hnone⟩⟩ := r.clear_session
    · exact hst.trans (hl (hdep ▸ hd))
    · rw [hdep, hnone] at hd
      exact nomatch hd

theorem clearAllBody_claimLaw (p : Port) (ps : List Byte) : (clearAllBody p ps s).1.claimLaw :=
  managerCommand_keeps h fun _ => accepted_keeps h.clearAll _

/-! ### Any command -/

theorem commandBody_claimLaw (p : Port) (f : Frame) : (commandBody p f s).1.claimLaw := by
  have L := claimLaw_law
  unfold commandBody
  split
  · exact joinBody_claimLaw h _ _
  · exact setServiceBody_claimLaw h _ _
  · exact leaveBody_claimLaw h _ _
  · exact leaveBody_claimLaw h _ _
  · exact portStatusBody_claimLaw h _ _
  · exact claimManagerBody_claimLaw h _ _
  · exact releaseManagerBody_claimLaw h _ _
  · exact L.submitBody h _ _
  · exact L.cancelBody h _ _
  · exact L.reapBody h _ _
  · exact L.chainResetBody h _ _
  · exact L.acceptBody h _ _
  · exact L.declineBody h _ _
  · exact L.renewBody h _ _
  · exact L.returnBody h _ _
  · exact L.completeBody h _ _
  · exact L.flagReadBody h _ _
  · exact L.flagCombineBody h _ _
  · exact L.watchSetBody h _ _
  · exact L.watchClearBody h _ _
  · exact fetchBody_claimLaw h _ _
  · exact L.queryBody h _ _
  · exact L.findBody h _ _
  · exact L.cancelMatchBody h _ _
  · exact readCountsBody_claimLaw h _ _
  · exact holdBody_claimLaw h _ _
  · exact resumeBody_claimLaw h _ _
  · exact managerCommand_keeps h fun _ => h.of_ports rfl rfl rfl
  · exact managerCommand_keeps h fun _ => h.of_ports rfl rfl rfl
  · exact setClassPolicyBody_claimLaw h _ _
  · exact managerCommand_keeps h fun _ => h.of_ports rfl rfl rfl
  · exact managerCommand_keeps h fun _ => h.modPort_unseen _ fun _ => ⟨rfl, rfl⟩
  · exact managerCommand_keeps h fun _ => h.of_ports rfl rfl rfl
  · exact evictBody_claimLaw h _ _
  · exact L.purgeBody h _ _
  · exact clearAllBody_claimLaw h _ _
  · exact h

end

end Sys2Proof.Machine
end

section
/-! PROOFS. The law of the manager claim and HOLD over one step: departures, resets and the statement. -/

namespace Sys2Proof.Machine

/-! ### Departures (R154, R155) -/

/-- The discard of a port's marks and queue keeps what the shared operations keep, when its first step does (R141). -/
theorem Kept.clearNotices {P : State → Prop} (K : Kept P) {s : State} (p : Port)
    (h : P (s.modPort p fun r => { r with queue := [], notices := NoticeSet.clear })) : P (s.clearNotices p) := by
  unfold State.clearNotices
  dsimp only
  refine K.closeSlots (foldl_keeps (fun t e ht => ?_) _ (foldl_keeps (fun t i ht => ?_) _ h))
  · unfold discardChainMark
    split
    · exact K.modChain _ _ ht
    · exact ht
  · rw [discardSlotMarks_eq]
    exact K.modSlot _ _ ht

section
variable {s : State} (h : s.claimLaw)
include h

theorem State.claimLaw.clearNotices (p : Port) : (s.clearNotices p).claimLaw :=
  claimLaw_law.clearNotices p (h.modPort_unseen p fun _ => ⟨rfl, rfl⟩)

theorem State.claimLaw.advance (p : Port) (st : DepStep) (n : DepCounts) : (s.advance p st n).claimLaw :=
  h.modDeparture p _

theorem State.claimLaw.stepWithdraw (p : Port) (d : Departure) : (s.stepWithdraw p d).claimLaw := by
  have h1 : (s.withdrawOffers p false).1.claimLaw := claimLaw_law.withdrawOffers p false h
  have h2 := h1.modPort_unseen p (f := fun r => { r with missed := 0, stalled := false }) fun _ => ⟨rfl, rfl⟩
  exact claimLaw_law.close claimLaw_law.idle (h2.advance p _ _)

theorem State.claimLaw.stepReclaim (p : Port) (d : Departure) : (s.stepReclaim p d).claimLaw := by
  have h1 : ((s.port p).workingSet.foldl (reclaimJob p) (s, d.counts)).1.claimLaw :=
    foldl_keeps (P := fun a : State × DepCounts => a.1.claimLaw) (fun _ i ha => claimLaw_law.reclaimJob p i ha) _ h
  exact claimLaw_law.close claimLaw_law.idle (h1.advance p _ _)

theorem State.claimLaw.stepOrphans (p : Port) (d : Departure) : (s.stepOrphans p d).claimLaw :=
  have h1 : (s.orphanHandling p d.orphan d.counts).1.claimLaw := claimLaw_law.orphanHandling p _ _ h
  claimLaw_law.close claimLaw_law.idle (h1.advance p _ _)

theorem State.claimLaw.stepWatches (p : Port) (d : Departure) : (s.stepWatches p d).claimLaw :=
  State.claimLaw.advance (claimLaw_law.freeWatches p h) p _ _

theorem State.claimLaw.stepNotices (p : Port) (d : Departure) : (s.stepNotices p d).claimLaw := by
  have h1 : ((s.clearNotices p).advance p .search d.counts).claimLaw := (h.clearNotices p).advance p _ _
  unfold State.stepNotices
  dsimp only
  split
  · exact h1.modPort_unseen p fun _ => ⟨rfl, rfl⟩
  · exact h1

theorem State.claimLaw.abandonScan (p : Port) : (s.abandonScan p).claimLaw := by
  unfold State.abandonScan
  refine State.claimLaw.modPort_unseen ?_ p fun _ => ⟨rfl, rfl⟩
  split
  · exact claimLaw_law.answerInFlight h p _
  · exact h

/-- A port that is not the manager leaves its session (R155). -/
theorem State.claimLaw.endDeparture (p : Port) (d : Departure) (hm : s.manager ≠ some p) :
    (s.endDeparture p d).claimLaw := by
  have h1 : (s.modPort p fun r =>
      { r.endSession with
        queue := if d.prstSeen then [] else r.queue
        state := if r.prst then .down else .idle }).claimLaw :=
    h.modPort p (fun hs => absurd hs hm) nofun
  unfold State.endDeparture
  dsimp only
  split
  · exact claimLaw_law.answer h1 _ _
  · exact h1

/-- A departing port is LEAVING, so that it is not the manager. -/
theorem State.claimLaw.not_manager_of_departing {p : Port} (hd : (s.port p).departure.isSome = true) :
    s.manager ≠ some p := fun hm => absurd ((h.2.2 p hd).symm.trans (h.1 p hm)) nofun

omit h in
theorem State.abandonScan_manager (s : State) (p : Port) : (s.abandonScan p).manager = s.manager := by
  unfold State.abandonScan State.answerInFlight
  repeat' split
  all_goals rfl

theorem State.claimLaw.stepSearch (p : Port) (d : Departure) (hd : (s.port p).departure.isSome = true) :
    (s.stepSearch p d).claimLaw :=
  (h.abandonScan p).endDeparture p d (by
    rw [State.abandonScan_manager]
    exact h.not_manager_of_departing hd)

/-! ### Resets (R145, R146, R187) -/

omit h in
theorem State.powerOn_claimLaw (s : State) : s.powerOn.claimLaw := by
  refine ⟨nofun, nofun, fun x => ?_⟩
  simp [State.port, State.powerOn, PortRec.powerOn]

omit h in
/-- A port enters IDLE from DOWN alone (R145). -/
theorem PortRec.enterIdle_session (r : PortRec) : r.enterIdle.departure = r.departure
    ∧ (r.enterIdle.state = r.state ∨ r.state = .down) := by
  unfold PortRec.enterIdle
  split
  next hd => exact ⟨rfl, .inr hd.1⟩
  next => exact ⟨rfl, .inl rfl⟩

omit h in
theorem PortRec.enterIdle_joined {r : PortRec} (hj : r.state = .joined) : r.enterIdle.state = .joined := by
  obtain ⟨-, hst | hst⟩ := r.enterIdle_session
  · exact hst.trans hj
  · exact absurd (hst.symm.trans hj) nofun

omit h in
theorem PortRec.enterIdle_leaving {r : PortRec} (hl : r.departure.isSome = true → r.state = .leaving)
    (hd : r.enterIdle.departure.isSome = true) : r.enterIdle.state = .leaving := by
  obtain ⟨hdep, hst | hst⟩ := r.enterIdle_session
  · exact hst.trans (hl (hdep ▸ hd))
  · exact absurd (hst.symm.trans (hl (hdep ▸ hd))) nofun

theorem State.claimLaw.portReset (p : Port) : (s.portReset p).claimLaw := by
  unfold State.portReset
  split
  · exact h.modDeparture p _
  next hd =>
    split
    · exact h
    next hst =>
      refine (h.clearNotices p).modPort p (fun hm => ?_) fun hs => ?_
      · have := (h.clearNotices p).1 p hm
        rw [State.clearNotices_port, if_pos rfl] at this
        exact absurd (hst.symm.trans this) nofun
      · rw [State.clearNotices_port, if_pos rfl] at hs
        simp [hd] at hs
    · exact h.beginDeparture p _ _ _
    · exact h.beginDeparture p _ _ _

theorem State.claimLaw.assertPrst (p : Port) (cut : Option (List Byte)) : (s.assertPrst p cut).claimLaw := by
  have h1 : ((s.abandon p cut).modPort p fun r => { r with prst := true }).claimLaw :=
    (claimLaw_law.abandon h p cut).modPort_unseen p fun _ => ⟨rfl, rfl⟩
  unfold State.assertPrst
  dsimp only
  split
  · exact h1
  · refine State.claimLaw.portReset ?_ p
    exact (claimLaw_law.modLink h1 p _).mapPorts rfl rfl rfl (fun _ => id) fun r hl hd => hl (by simpa using hd)

theorem execPrstNAssert_claimLaw (a : PrstAssertion) : State.Answers State.claimLaw (execPrstNAssert a s) := by
  refine .next ?_
  split
  · exact h
  · exact h.assertPrst _ _

theorem execPrstNDeassert_claimLaw (p : Port) : State.Answers State.claimLaw (execPrstNDeassert p s) := by
  refine .next ?_
  split
  · dsimp only
    split
    · exact h.modPort_unseen p fun _ => ⟨rfl, rfl⟩
    · exact h.modPort p (fun hm => PortRec.enterIdle_joined (h.1 p hm)) (PortRec.enterIdle_leaving (h.2.2 p))
  · exact h

theorem execResetNRelease_claimLaw : State.Answers State.claimLaw (execResetNRelease s) := by
  refine .next ?_
  split
  · exact h.mapPorts (f := PortRec.enterIdle) rfl rfl rfl (fun _ => PortRec.enterIdle_joined)
      fun _ => PortRec.enterIdle_leaving
  · exact h

/-! ### One step -/

omit h in
theorem State.departureAt_eq_some_iff {s : State} {p : Port} {st : DepStep} {d : Departure} :
    s.departureAt p st = some d ↔ s.inReset = false ∧ (s.port p).departure = some d ∧ d.next = st := by
  unfold State.departureAt
  split
  next h0 => simp [h0]
  next h0 =>
    rw [Bool.not_eq_true] at h0
    split
    next e he =>
      simp only [h0, he, Option.some.injEq, Option.ite_none_right_eq_some, true_and]
      exact ⟨fun ⟨hn, hd⟩ => ⟨hd, hd ▸ hn⟩, fun ⟨hd, hn⟩ => ⟨hd ▸ hn, hd⟩⟩
    next hn => simp [hn]

/-- A step of a departure in progress keeps the law when its own change does; elsewhere it does not take place. -/
theorem departureStep_claimLaw (p : Port) (st : DepStep) {f : Departure → State}
    (hf : ∀ d, (s.port p).departure.isSome = true → (f d).claimLaw) :
    State.Answers State.claimLaw (match s.departureAt p st with
      | some d => .next (f d)
      | none => .next s) := by
  split
  next d hd => exact .next (hf d (Option.isSome_of_eq_some (State.departureAt_eq_some_iff.mp hd).2.1))
  next => exact .next h

theorem exec_claimLaw (c : Instr) : State.Answers State.claimLaw (exec c s) := by
  have L := claimLaw_law
  cases hf : c.frame with
  | some pf =>
    rw [exec_of_frame hf]
    exact .next (L.hostFrame h _ _ _ fun _ hu => commandBody_claimLaw hu _ _)
  | none =>
    have hbytes (p : Port) (bytes : List Byte) : (s.transaction p bytes).claimLaw :=
      L.transaction h p bytes fun f _ hu => commandBody_claimLaw hu p f
    cases c with
    | commandFrameBad p bytes => exact .next (hbytes p bytes)
    | retransmission p bytes => exact .next (hbytes p bytes)
    | overrun p bytes => exact .next (hbytes p bytes)
    | badCommand p bytes => exact .next (hbytes p bytes)
    | goodFrameOnDownPort p bytes => exact .next (hbytes p bytes)
    | responseRead p part => exact L.execResponseRead h p part
    | resetNAssert => exact .next s.powerOn_claimLaw
    | resetNRelease => exact execResetNRelease_claimLaw h
    | prstNAssert a => exact execPrstNAssert_claimLaw h a
    | prstNDeassert p => exact execPrstNDeassert_claimLaw h p
    | tick => refine .next ?_; split; exacts [h, h.of_ports rfl rfl rfl]
    | offerWindowExpiry i => exact L.execOfferWindowExpiry h i
    | leaseExpiry i => exact L.execLeaseExpiry h i
    | agePromotion i => exact L.execAgePromotion h i
    | offer => exact L.execOffer h
    | scanVisit p => exact L.execScanVisit h p
    | departureOfferWithdrawal p => exact departureStep_claimLaw h p _ fun d _ => h.stepWithdraw p d
    | departureReclaim p => exact departureStep_claimLaw h p _ fun d _ => h.stepReclaim p d
    | orphanHandling p => exact departureStep_claimLaw h p _ fun d _ => h.stepOrphans p d
    | departureWatchRelease p => exact departureStep_claimLaw h p _ fun d _ => h.stepWatches p d
    | departureNoticeClear p => exact departureStep_claimLaw h p _ fun d _ => h.stepNotices p d
    | departureScanAbandon p => exact departureStep_claimLaw h p _ (h.stepSearch p)
    | _ => cases hf

/-- A REFCLK period changes neither port records nor the claim (R177). -/
theorem State.claimLaw.refclk : s.refclk.claimLaw := by
  unfold State.refclk
  repeat' split
  · exact h
  · exact h.of_ports rfl rfl rfl
  · exact h.of_ports rfl rfl rfl

theorem step_claimLaw : State.Answers State.claimLaw (step s) := by
  unfold step
  split
  · exact .next h.refclk
  · refine exec_claimLaw ?_ _
    exact h.of_ports rfl rfl rfl

end

/-- Settles O59: the claim law is a law, and what no law covers keeps it by the checks that the claim has passed. -/
theorem stepKeepsTheClaimLaw : Obligations.StepKeepsTheClaimLaw := by
  unfold Obligations.StepKeepsTheClaimLaw
  intro s t h hst
  obtain ⟨u, hu, hlaw⟩ := step_claimLaw h
  obtain rfl := Host.Outcome.next.inj (hu.symm.trans hst)
  exact hlaw

end Sys2Proof.Machine
end

section
/-! PROOFS. Ports leave DOWN for IDLE (R145, R187). -/

namespace Sys2Proof.Machine

/-- A change of a port record is what it makes of the record's present value. -/
theorem State.modPort_congr (s : State) (p : Port) {f g : PortRec → PortRec} (h : f (s.port p) = g (s.port p)) :
    s.modPort p f = s.modPort p g := by simp only [State.modPort, h]

/-- Settles O4: both rows make DOWN ports with a deasserted pin enter IDLE, RESET_N_RELEASE all of them at once. -/
theorem portsLeaveDownForIdle : Obligations.PortsLeaveDownForIdle := by
  unfold Obligations.PortsLeaveDownForIdle
  refine ⟨fun s h0 => ?_, fun s p h0 hpin => ?_⟩
  · refine ⟨{ s with inReset := false, ports := mapV PortRec.enterIdle s.ports }, ?_, fun p => ?_, rfl⟩
    · exact congrArg Host.Outcome.next (if_pos h0)
    · exact getElem_mapV PortRec.enterIdle _ _ _
  · refine congrArg Host.Outcome.next ((if_pos hpin).trans (s.modPort_congr p ?_))
    simp [PortRec.enterIdle, h0]

end Sys2Proof.Machine
end

section
/-! PROOFS. What SET_SERVICE, PORT_STATUS, READ_COUNTS, CLAIM_MANAGER and RELEASE_MANAGER answer (R150, R159 to R161,
R174). -/

namespace Sys2Proof.Machine

/-! ### The received record, field by field -/

/-- Taking a command changes four fields of its port's record (R189, R192, R65). -/
theorem State.received_port_rest (s : State) (p x : Port) (q : Seq) (ps : List Byte) :
    (s.received p q ps).port x = { s.port x with
      pdo := ((s.received p q ps).port x).pdo, link := ((s.received p q ps).port x).link
      missed := ((s.received p q ps).port x).missed, stalled := ((s.received p q ps).port x).stalled } := by
  rw [State.received_port]
  split
  next e => subst e; rfl
  next => rfl

section
variable (s : State) (p x : Port) (q : Seq) (ps : List Byte)

@[simp] theorem State.received_credits : ((s.received p q ps).port x).credits = (s.port x).credits := by
  rw [State.received_port_rest]

@[simp] theorem State.received_mask : ((s.received p q ps).port x).mask = (s.port x).mask := by
  rw [State.received_port_rest]

@[simp] theorem State.received_floor : ((s.received p q ps).port x).floor = (s.port x).floor := by
  rw [State.received_port_rest]

@[simp] theorem State.received_workingSet : ((s.received p q ps).port x).workingSet = (s.port x).workingSet := by
  rw [State.received_port_rest]

@[simp] theorem State.received_queue : ((s.received p q ps).port x).queue = (s.port x).queue := by
  rw [State.received_port_rest]

@[simp] theorem State.received_scan : ((s.received p q ps).port x).scan = (s.port x).scan := by
  rw [State.received_port_rest]

@[simp] theorem State.received_cursor : ((s.received p q ps).port x).cursor = (s.port x).cursor := by
  rw [State.received_port_rest]

@[simp] theorem State.received_offerSet : (s.received p q ps).offerSet x = s.offerSet x := rfl

@[simp] theorem State.received_watchesOf : (s.received p q ps).watchesOf x = s.watchesOf x := rfl

@[simp] theorem State.received_load : (s.received p q ps).load x = s.load x := by
  rw [State.load, State.received_workingSet, State.received_offerSet, State.load]

/-- The counts are of values that the taking of a command leaves (R174). -/
theorem State.received_counts : (s.received p q ps).counts = s.counts := by
  have hport (x : Port) : num1 ((s.received p q ps).load x) ++ num1 ((s.received p q ps).port x).credits
      = num1 (s.load x) ++ num1 (s.port x).credits := by rw [State.received_load, State.received_credits]
  unfold State.counts
  simp only [hport]
  rfl

end

/-! ### SET_SERVICE (R150) -/

section
variable {s : State} {p : Port} {ps : List Byte}

theorem setServiceBody_of (ha : s.admits p inJoined = true) (hr : (s.port p).roles.consumer = true)
    {m : BitVec 8} {f : Nat} (hp : parseService ps = some (m, f)) :
    setServiceBody p ps s = accepted ([(s.port p).mask] ++ num1 (s.port p).floor ++ [m] ++ num1 f)
      (s.modPort p fun r => { r with mask := m, floor := f }) := by
  simp [setServiceBody, ha, hr, hp]

theorem setServiceBody_badParam (ha : s.admits p inJoined = true) (hr : (s.port p).roles.consumer = true)
    (hp : parseService ps = none) : setServiceBody p ps s = refuse .badParam s := by
  simp [setServiceBody, ha, hr, hp]

theorem setServiceBody_notPermitted (ha : s.admits p inJoined = true) (hr : (s.port p).roles.consumer = false) :
    setServiceBody p ps s = refuse .notPermitted s := by
  simp [setServiceBody, ha, hr]

theorem setServiceBody_wrongState (ha : s.admits p inJoined = false) :
    setServiceBody p ps s = refuse .wrongState s := by
  simp [setServiceBody, ha]

end

theorem parseService_of_le {m f : Byte} (h : f.toNat ≤ 15) : parseService [m, f] = some (m, f.toNat) :=
  if_neg (Nat.not_lt.mpr h)

/-- Every block but one of a mask and a floor to 15 is refused (R150). -/
theorem parseService_eq_none {ps : List Byte} (h : ∀ m f : Byte, ps = [m, f] → 15 < f.toNat) :
    parseService ps = none := by
  unfold parseService
  split
  next m f => exact if_pos (h m f rfl)
  next => rfl

/-- Settles O16: the four answers of SET_SERVICE, by the checks it passes. -/
theorem setServiceReplacesMaskAndFloor : Obligations.SetServiceReplacesMaskAndFloor := by
  unfold Obligations.SetServiceReplacesMaskAndFloor
  intro s p q ps ht
  have hexec : exec (.setService p q ps) s =
      .next (finishTaken p (setServiceBody p ps (s.received p q ps))) := congrArg _ (hostFrame_takes _ ht)
  have ha : (s.received p q ps).admits p inJoined = s.admits p [.joined] := s.received_admits p p q ps _
  have hr : ((s.received p q ps).port p).roles = (s.port p).roles := s.received_roles p p q ps
  rw [hexec]
  refine ⟨fun hadm hc => ⟨fun m f hps hf => ?_, fun hbad => ?_⟩, fun hadm hc => ?_, fun hadm => ?_⟩
  · have hp : parseService ps = some (m, f.toNat) := hps ▸ parseService_of_le hf
    rw [setServiceBody_of (ha.trans hadm) (hr ▸ hc) hp, finishTaken_accepted, State.received_mask,
      State.received_floor]
    simp [num1]
  · rw [setServiceBody_badParam (ha.trans hadm) (hr ▸ hc) (parseService_eq_none hbad), finishTaken_refuse]
  · rw [setServiceBody_notPermitted (ha.trans hadm) (hr ▸ hc), finishTaken_refuse]
  · rw [setServiceBody_wrongState (ha.trans hadm), finishTaken_refuse]

/-! ### PORT_STATUS and READ_COUNTS (R161, R174) -/

/-- A block of one number names that number's byte. -/
theorem parseFin_eq_some {n : Nat} {ps : List Byte} {x : Fin n} (h : parseFin n ps = some x) :
    ∃ b : Byte, ps = [b] ∧ b.toNat = x.val := by
  unfold parseFin at h
  split at h
  next b =>
    unfold finOf at h
    split at h
    · exact ⟨b, rfl, congrArg Fin.val (Option.some.inj h)⟩
    · exact nomatch h
  next => exact nomatch h

section
variable {s : State} {p x : Port} {ps : List Byte} (ha : s.admits p inAny = true) (hp : parseFin 4 ps = some x)
include ha hp

theorem portStatusBody_of (hx : x = p ∨ s.manager = some p) :
    portStatusBody p ps s = accepted (s.standing x) s := by
  obtain ⟨b, rfl, hb⟩ := parseFin_eq_some hp
  have hother : (namesOther p [b] && !s.isManager p) = false := by
    rw [Bool.and_eq_false_iff, Bool.not_eq_false', State.isManager_iff]
    refine hx.imp (fun e => ?_) id
    simp [namesOther, hb, e]
  simp [portStatusBody, ha, hother, hp]

theorem portStatusBody_notManager (hx : x ≠ p) (hm : s.manager ≠ some p) :
    portStatusBody p ps s = refuse .notManager s := by
  obtain ⟨b, rfl, hb⟩ := parseFin_eq_some hp
  have hother : namesOther p [b] = true := by simpa [namesOther, hb] using fun h => hx (Fin.ext h)
  have hno : s.isManager p = false := Bool.eq_false_iff.mpr (mt (s.isManager_iff p).mp hm)
  simp [portStatusBody, ha, hother, hno]

end

/-- Settles O17: what PORT_STATUS and READ_COUNTS read is the received state's, which differs from the state before in
one port's link, missed count and STALLED flag alone. -/
theorem statusAndCountsAreRead : Obligations.StatusAndCountsAreRead := by
  unfold Obligations.StatusAndCountsAreRead
  intro s p q ps ht hadm
  have hexec : exec (.portStatus p q ps) s =
      .next (finishTaken p (portStatusBody p ps (s.received p q ps))) := congrArg _ (hostFrame_takes _ ht)
  have ha : (s.received p q ps).admits p inAny = true := (s.received_admits p p q ps _).trans hadm
  refine ⟨fun x hp hx => ?_, fun x hp hx hm => ?_, fun hps => ?_⟩
  · rw [hexec, portStatusBody_of ha hp hx, finishTaken_accepted]
    refine congrArg (fun data => Host.Outcome.next ((s.received p q ps).answer p ⟨.ok, data⟩)) ?_
    unfold State.standing
    dsimp only
    simp only [State.departing, State.isManager, State.load, State.received_offerSet,
      State.received_workingSet, State.received_handle, State.received_queue, State.received_owed,
      State.received_quota, State.received_watchesOf, State.received_scan, State.received_cursor,
      State.received_manager]
  · rw [hexec, portStatusBody_notManager ha hp hx hm, finishTaken_refuse]
  · subst hps
    have hcounts : readCountsBody p [] (s.received p q []) = accepted s.counts (s.received p q []) := by
      simp [readCountsBody, ha, parseEmpty, State.received_counts]
    have hexec : exec (.readCounts p q []) s =
        .next (finishTaken p (readCountsBody p [] (s.received p q []))) := congrArg _ (hostFrame_takes _ ht)
    rw [hexec, hcounts, finishTaken_accepted]
    rfl

/-! ### The manager claim (R159, R160) -/

section
variable {s : State} {p : Port} (ha : s.admits p inJoined = true)
include ha

theorem claimManagerBody_free (hm : s.manager = none) : claimManagerBody p [] s =
    accepted (portByte (some p)) ({ s with manager := some p }.notifyJoined (.managerChanged (some p))) := by
  simp [claimManagerBody, ha, parseEmpty, hm]

theorem claimManagerBody_again (hm : s.manager = some p) :
    claimManagerBody p [] s = accepted (portByte (some p)) s := by
  simp [claimManagerBody, ha, parseEmpty, hm]

theorem claimManagerBody_taken {m : Port} (hne : m ≠ p) (hm : s.manager = some m) :
    claimManagerBody p [] s = (s, some ⟨.managerTaken, portByte (some m)⟩) := by
  simp [claimManagerBody, ha, parseEmpty, hm, hne]

theorem releaseManagerBody_of (hm : s.manager = some p) :
    releaseManagerBody p [] s = accepted (yesNo s.hold) s.dropClaim := by
  simp [releaseManagerBody, ha, State.isManager, hm, parseEmpty]

theorem releaseManagerBody_notManager (hm : s.manager ≠ some p) :
    releaseManagerBody p [] s = refuse .notManager s := by
  simp [releaseManagerBody, ha, State.isManager, hm]

end

/-- Settles O18: CLAIM_MANAGER by who holds the claim, and RELEASE_MANAGER by whether the port holds it. -/
theorem managerClaimIsGivenAndReleased : Obligations.ManagerClaimIsGivenAndReleased := by
  unfold Obligations.ManagerClaimIsGivenAndReleased
  intro s p q ht hadm
  have hclaim : exec (.claimManager p q []) s =
      .next (finishTaken p (claimManagerBody p [] (s.received p q []))) := congrArg _ (hostFrame_takes _ ht)
  have hrelease : exec (.releaseManager p q []) s =
      .next (finishTaken p (releaseManagerBody p [] (s.received p q []))) := congrArg _ (hostFrame_takes _ ht)
  have ha : (s.received p q []).admits p inJoined = true := (s.received_admits p p q [] _).trans hadm
  refine ⟨fun hm => ?_, fun hm => ?_, fun m hne hm => ?_, fun hm => ?_, fun hm => ?_⟩
  · rw [hclaim, claimManagerBody_free ha hm, finishTaken_accepted]
    rfl
  · rw [hclaim, claimManagerBody_again ha hm, finishTaken_accepted]
    rfl
  · rw [hclaim, claimManagerBody_taken ha hne hm, finishTaken_some]
    rfl
  · rw [hrelease, releaseManagerBody_of ha hm, finishTaken_accepted, State.received_hold]
  · rw [hrelease, releaseManagerBody_notManager ha hm, finishTaken_refuse]

end Sys2Proof.Machine
end

section
/-! PROOFS. JOIN (R149): every live record is read in turn, and with every live record sound each loses the joining port
from its declined set. -/

namespace Sys2Proof.Machine

/-- A slot's record once the port has joined: a live job that it declined is written without it (R149 step 2). -/
def Slot.undeclined (p : Port) (sl : Slot) : Slot :=
  if sl.state.live && sl.job.declined[p] then
    { sl with checkOk := true, job := { sl.job with declined := sl.job.declined.set p false } }
  else sl

theorem Slot.undeclined_state (p : Port) (sl : Slot) : (sl.undeclined p).state = sl.state := by
  unfold Slot.undeclined
  split <;> rfl

/-- Every live record agrees with its check code. -/
def State.LiveSound (s : State) : Prop := ∀ i, (s.slot i).state.live = true → (s.slot i).checkOk = true

theorem State.liveSound_of_liveFails {s : State} (h : s.liveFails = false) : s.LiveSound := fun i hi => by
  have h1 : ¬ ((s.slot i).state.live && s.testFails i) = true := List.any_eq_false.mp h i (List.mem_finRange i)
  simpa [hi, State.testFails, SlotState.tested] using h1

/-- The visit of one slot whose record does not fail. -/
theorem undecline_eq {s : State} (h : s.LiveSound) (p : Port) (i : SlotId) :
    undecline p s i = s.modSlot i (Slot.undeclined p) := by
  unfold undecline
  cases hl : (s.slot i).state.live with
  | false =>
    rw [if_neg Bool.false_ne_true]
    exact (s.modSlot_self i (by simp [Slot.undeclined, hl])).symm
  | true =>
    have hf : s.testFails i = false := by simp [State.testFails, h i hl]
    cases hd : (s.job i).declined[p] with
    | false =>
      have hd' : (s.slot i).job.declined[p] = false := hd
      rw [if_pos rfl, if_neg (by simp [hf]), if_neg Bool.false_ne_true]
      exact (s.modSlot_self i (by simp [Slot.undeclined, hd'])).symm
    | true =>
      have hd' : (s.slot i).job.declined[p] = true := hd
      rw [if_pos rfl, if_neg (by simp [hf]), if_pos rfl, State.writeJob, State.writeSlot]
      refine s.modSlot_congr i ?_
      simp [Slot.undeclined, hl, hd']

/-- A write keeps the live records sound. -/
theorem State.LiveSound.undeclined {s : State} (h : s.LiveSound) (p : Port) (i : SlotId) :
    (s.modSlot i (Slot.undeclined p)).LiveSound := fun j hj => by
  rw [State.modSlot_slot] at hj ⊢
  split at hj
  next e =>
    subst e
    rw [Slot.undeclined_state] at hj
    rw [if_pos rfl]
    unfold Slot.undeclined
    split
    · rfl
    · exact h j hj
  next e =>
    rw [if_neg e]
    exact h j hj

theorem foldl_undecline_eq {s : State} (h : s.LiveSound) (p : Port) (l : List SlotId) :
    l.foldl (undecline p) s = l.foldl (fun t i => t.modSlot i (Slot.undeclined p)) s := by
  induction l generalizing s with
  | nil => rfl
  | cons i l ih => rw [List.foldl_cons, List.foldl_cons, undecline_eq h p i, ih (h.undeclined p i)]

/-- One change of every slot, slot by slot. -/
theorem State.foldl_modSlot (s : State) (g : Slot → Slot) :
    allSlots.foldl (fun t i => t.modSlot i g) s = { s with slots := mapV g s.slots } := by
  have hslot := fun j => (foldl_reads (f := fun t i => State.modSlot t i g) (read := State.slot) (g := g)
    (fun t i j => by rw [State.modSlot_slot]; split <;> simp_all) allSlots (List.nodup_finRange 256) s j).trans
      (if_pos (List.mem_finRange j))
  have hrest : ∀ l : List SlotId, l.foldl (fun t i => State.modSlot t i g) s
      = { s with slots := (l.foldl (fun t i => State.modSlot t i g) s).slots } := fun l =>
    foldl_keeps (P := fun t : State => t = { s with slots := t.slots }) (fun t i ht => by rw [ht]; rfl) l rfl
  rw [hrest]
  refine congrArg (fun v => { s with slots := v }) (Vector.ext fun k hk => ?_)
  rw [getElem_mapV]
  exact hslot ⟨k, hk⟩

theorem State.modPort_withSlots (s : State) (v : Vector Slot 256) (p : Port) (f : PortRec → PortRec) :
    State.modPort { s with slots := v } p f = { s.modPort p f with slots := v } := rfl

/-- The effects of a JOIN where no live record fails (R149). -/
theorem State.joinPort_of_sound {s : State} (h : s.liveFails = false) (p : Port) (j : JoinParams) :
    s.joinPort p j = { s.modPort p (fun r =>
      { r with
        roles := j.roles, credits := j.credits, mask := j.mask, floor := j.floor
        missed := 0, stalled := false, state := .joined }) with slots := mapV (Slot.undeclined p) s.slots } := by
  have hsound : (s.modPort p fun r =>
      { r with roles := j.roles, credits := j.credits, mask := j.mask, floor := j.floor }).LiveSound :=
    State.liveSound_of_liveFails h
  unfold State.joinPort
  dsimp only
  rw [h, State.closeIf, if_neg Bool.false_ne_true, foldl_undecline_eq hsound, State.foldl_modSlot,
    State.modPort_withSlots, State.modPort_modPort, State.modPort_slots]

theorem joinBody_of {s : State} {p : Port} {ps : List Byte} {j : JoinParams} (ha : s.admits p [.idle] = true)
    (hp : parseJoin ps = some j) : joinBody p ps s =
      accepted (rolesByte j.roles ++ num1 j.credits ++ portByte s.manager ++ yesNo s.hold) (s.joinPort p j) := by
  simp [joinBody, ha, hp]

/-- Settles O15: JOIN's answer is the body's, and its effect on the slots is one write for each declined live record. -/
theorem joinOpensTheSession : Obligations.JoinOpensTheSession := by
  unfold Obligations.JoinOpensTheSession
  intro s p q ps j ht hadm hp
  have hexec : exec (.join p q ps) s =
      .next (finishTaken p (joinBody p ps (s.received p q ps))) := congrArg _ (hostFrame_takes _ ht)
  refine ⟨?_, fun hsound => ?_⟩
  · rw [hexec, joinBody_of ((s.received_admits p p q ps _).trans hadm) hp, finishTaken_accepted,
      State.received_manager, State.received_hold]
  · rw [← State.received_liveFails s p q ps] at hsound
    exact State.joinPort_of_sound hsound p j

end Sys2Proof.Machine
end

section
/-! PROOFS. LEAVE and EVICT (R151 to R157): the claim is dropped first, then a drain or a forced departure begins. -/

namespace Sys2Proof.Machine

/-! ### The drop of a claim that the port may hold (R160) -/

/-- A notice for JOINED ports shows in a record's queue and notice set alone. -/
theorem PortNotice.told_rest (n : PortNotice) (a : PortRec × Bool) :
    (n.told a).1 = { a.1 with queue := (n.told a).1.queue, notices := (n.told a).1.notices } := by
  unfold PortNotice.told
  repeat' split
  all_goals rfl

/-- The drop of the claim shows in a port record's queue and notice set alone. -/
theorem State.dropClaim_port_rest (s : State) (x : Port) :
    s.dropClaim.port x = { s.port x with
      queue := (s.dropClaim.port x).queue, notices := (s.dropClaim.port x).notices } := by
  have h : s.dropClaim.port x = (s.dropClaim.standingOf x).1 := rfl
  rw [h, State.standingOf_dropClaim, PortNotice.told_rest]
  split
  · rw [PortNotice.told_rest]
    rfl
  · rfl

/-- The state once the port has dropped the claim, if it holds it. -/
def State.claimDropped (s : State) (p : Port) : State := if s.manager = some p then s.dropClaim else s

theorem State.claimDropped_eq (s : State) (p : Port) :
    (if s.isManager p then s.dropClaim else s) = s.claimDropped p := by
  unfold State.claimDropped
  simp only [State.isManager_iff]

theorem State.claimDropped_port_rest (s : State) (p x : Port) :
    (s.claimDropped p).port x = { s.port x with
      queue := ((s.claimDropped p).port x).queue, notices := ((s.claimDropped p).port x).notices } := by
  unfold State.claimDropped
  split
  · exact s.dropClaim_port_rest x
  · rfl

theorem State.claimDropped_rest (s : State) (p : Port) :
    s.claimDropped p = { s with
      manager := (s.claimDropped p).manager, hold := (s.claimDropped p).hold, ports := (s.claimDropped p).ports } := by
  unfold State.claimDropped
  split
  · rw [State.dropClaim_rest]
  · rfl

theorem State.claimDropped_manager (s : State) (p : Port) :
    (s.claimDropped p).manager = if s.manager = some p then none else s.manager := by
  unfold State.claimDropped
  split
  · rw [State.dropClaim_rest]
  · rfl

theorem State.claimDropped_manager_ne (s : State) (p : Port) : (s.claimDropped p).manager ≠ some p := by
  rw [State.claimDropped_manager]
  split
  · exact nofun
  next h => exact h

theorem State.claimDropped_hold {s : State} {p : Port} (h : s.manager = some p) : (s.claimDropped p).hold = false := by
  rw [State.claimDropped, if_pos h, State.dropClaim_rest]

theorem State.claimDropped_of_ne {s : State} {p : Port} (h : s.manager ≠ some p) : s.claimDropped p = s := if_neg h

/-! ### LEAVE DRAIN (R152) -/

/-- A port that has begun to leave without the claim goes on so: LEAVING, or IDLE when its drain is over. -/
theorem leavingUnclaimed_kept (p : Port) : Kept fun t =>
    ((t.port p).state = .leaving ∨ (t.port p).state = .idle) ∧ t.manager ≠ some p where
  rest := fun h hp hm _ _ _ _ => by simpa only [State.port, hp, hm] using h
  quiet := fun {s q f} hf h => by
    rw [State.modPort_port]
    split
    next e => subst e; rwa [(hf _).2.1]
    next => exact h
  enqueue := fun {s q e} _ h => by
    rw [State.enqueue_port]
    split
    next e => subst e; exact h
    next => exact h

theorem leavingUnclaimed_keepsIdle (p : Port) : KeepsIdle fun t =>
    ((t.port p).state = .leaving ∨ (t.port p).state = .idle) ∧ t.manager ≠ some p := fun {s q} h _ _ => by
  obtain ⟨hst, hm⟩ := h
  refine ⟨⟨?_, hm⟩, ?_, hm⟩
  · rw [State.modPort_port]
    split
    next e => subst e; exact hst
    next => exact hst
  · rw [State.modPort_port]
    split
    · exact .inr rfl
    · exact hst

theorem leaveBody_drain {s : State} {p : Port} (ha : s.admits p inJoined = true) (o : Byte) :
    leaveBody p [0, o] s = leaveDrain p s := by
  have hl : (if ([0, o] : List Byte).head? = some 1 then inSession else inJoined) = inJoined := if_neg (by simp)
  have hp : parseLeave [0, o] = some .drain := rfl
  rw [leaveBody, hl, ha, hp]
  rfl

/-- Settles O20: the response counts before the close, and the close ends the drain or leaves it going on. -/
theorem leaveDrainStartsTheDrain : Obligations.LeaveDrainStartsTheDrain := by
  unfold Obligations.LeaveDrainStartsTheDrain
  intro s p q o ht hadm u a w
  have hexec : exec (.leaveDrain p q [0, o]) s =
      .next (finishTaken p (leaveBody p [0, o] u)) := congrArg _ (hostFrame_takes _ ht)
  have hdrop : (if u.isManager p then u.dropClaim else u) = u.claimDropped p := u.claimDropped_eq p
  have ha : a = (u.claimDropped p).modPort p fun r => { r with state := .leaving } := rfl
  have hw : w = a.withdrawOffers p true := rfl
  have K := leavingUnclaimed_kept p
  have hend := K.close (leavingUnclaimed_keepsIdle p) (K.withdrawOffers p true (s := a) ⟨.inl ?_, ?_⟩)
  · rw [← hw] at hend
    refine ⟨?_, hend⟩
    rw [hexec, leaveBody_drain ((s.received_admits p p q _ _).trans hadm), leaveDrain, hdrop, ← ha, ← hw, finishTaken_accepted]
    split <;> rfl
  · rw [ha, State.modPort_port_self]
  · rw [ha]
    exact u.claimDropped_manager_ne p

/-! ### LEAVE NOW and EVICT (R154, R156, R157) -/

/-- The start of a forced departure (R154 steps 1 and 2). -/
theorem State.beginDeparture_eq (s : State) (p : Port) (c : DepCause) (o : OrphanPolicy) (a : Option Port) :
    s.beginDeparture p c o a = (s.claimDropped p).modPort p fun r =>
      { r with
        state := .leaving
        departure := some ⟨.withdraw, c, o, c == .portReset, a, DepCounts.zero⟩ } := by
  rw [State.beginDeparture, State.claimDropped_eq]

/-- What the start of a departure does to its port, and what it leaves (R154). -/
structure State.DepartureBegun (s t : State) (p : Port) (c : DepCause) (o : OrphanPolicy) (a : Option Port) : Prop where
  state : (t.port p).state = .leaving
  departure : (t.port p).departure = some ⟨.withdraw, c, o, c == .portReset, a, DepCounts.zero⟩
  link : ∀ x, (t.port x).link = (s.port x).link
  manager : t.manager = if s.manager = some p then none else s.manager
  hold : t.hold = if s.manager = some p then false else s.hold
  slots : t.slots = s.slots
  chains : t.chains = s.chains
  words : t.words = s.words
  watches : t.watches = s.watches

theorem State.beginDeparture_begun (s : State) (p : Port) (c : DepCause) (o : OrphanPolicy) (a : Option Port) :
    s.DepartureBegun (s.beginDeparture p c o a) p c o a := by
  rw [State.beginDeparture_eq]
  refine ⟨?_, ?_, fun x => ?_, s.claimDropped_manager p, ?_, ?_, ?_, ?_, ?_⟩
  · rw [State.modPort_port_self]
  · rw [State.modPort_port_self]
  · have hlink : ((s.claimDropped p).port x).link = (s.port x).link := by rw [State.claimDropped_port_rest]
    rw [State.modPort_port]
    split
    next e => subst e; exact hlink
    next => exact hlink
  · show (s.claimDropped p).hold = _
    split
    next hm => exact State.claimDropped_hold hm
    next hm => rw [State.claimDropped_of_ne hm]
  all_goals
    rw [State.claimDropped_rest]
    rfl

theorem leaveBody_now {s : State} {p : Port} (ha : s.admits p inSession = true) (o : OrphanPolicy) :
    leaveBody p [1, o.code] s = (s.beginDeparture p .leaveNow o (some p), none) := by
  have hl : (if ([1, o.code] : List Byte).head? = some 1 then inSession else inJoined) = inSession := if_pos rfl
  have hp : parseLeave [1, o.code] = some (.now o) := by cases o <;> rfl
  rw [leaveBody, hl, ha, hp]
  rfl

theorem parseEvict_num1 {p x : Port} (hx : x ≠ p) : parseEvict p (num1 x.val) = some x := by
  simp [parseEvict, parseFin_num1, hx]

theorem parseEvict_self (p : Port) : parseEvict p (num1 p.val) = none := by
  simp [parseEvict, parseFin_num1]

section
variable {s : State} {p x : Port} (ha : s.admits p inSession = true) (hm : s.manager = some p)
include ha hm

theorem evictBody_of (hx : x ≠ p) (hadm : s.admits x inSession = true) :
    evictBody p (num1 x.val) s = (s.beginDeparture x .evict s.orphanPolicy (some p), none) := by
  rw [evictBody, managerCommand_of _ ha ((s.isManager_iff p).mpr hm) (parseEvict_num1 hx)]
  simp [hadm]

theorem evictBody_wrongState (hx : x ≠ p) (hadm : s.admits x inSession = false) :
    evictBody p (num1 x.val) s = refuse .wrongState s := by
  rw [evictBody, managerCommand_of _ ha ((s.isManager_iff p).mpr hm) (parseEvict_num1 hx)]
  simp [hadm]

theorem evictBody_self : evictBody p (num1 p.val) s = refuse .badParam s := by
  simp [evictBody, managerCommand, ha, State.isManager, hm, parseEvict_self]

end

theorem State.received_inFlight (s : State) (p : Port) (q : Seq) (ps : List Byte) :
    ((s.received p q ps).port p).link.inFlight = true := by rw [State.received_port, if_pos rfl]

/-- Settles O22: both commands stay in flight with a departure that has taken its first steps alone. -/
theorem forcedDepartureBegins : Obligations.ForcedDepartureBegins := by
  unfold Obligations.ForcedDepartureBegins
  intro s p q ps ht hadm
  have hleave : exec (.leaveNow p q ps) s =
      .next (finishTaken p (leaveBody p ps (s.received p q ps))) := congrArg _ (hostFrame_takes _ ht)
  have hevict : exec (.evict p q ps) s =
      .next (finishTaken p (evictBody p ps (s.received p q ps))) := congrArg _ (hostFrame_takes _ ht)
  have hflight := s.received_inFlight p q ps
  have ha (x : Port) : (s.received p q ps).admits x inSession = s.admits x [.joined, .leaving] :=
    s.received_admits p x q ps _
  refine ⟨fun o hps => ?_, fun x hps hx hm hxadm => ?_, fun hm => ⟨fun hps => ?_, fun x hps hx hxadm => ?_⟩⟩
  · subst hps
    have h := (s.received p q [1, o.code]).beginDeparture_begun p .leaveNow o (some p)
    refine ⟨_, ?_, h.state, h.departure, (congrArg Link.inFlight (h.link p)).trans hflight, h.manager,
      fun hm => h.hold.trans (if_pos hm), h.slots, h.chains, h.words, h.watches⟩
    rw [hleave, leaveBody_now ((ha p).trans hadm), finishTaken_none]
  · subst hps
    have hmx : s.manager ≠ some x := by
      rw [hm]
      exact fun h => hx (Option.some.inj h).symm
    have h := (s.received p q (num1 x.val)).beginDeparture_begun x .evict s.orphanPolicy (some p)
    refine ⟨_, ?_, h.state, h.departure, (congrArg Link.inFlight (h.link p)).trans hflight,
      h.manager.trans (if_neg hmx), h.hold.trans (if_neg hmx), h.slots, h.chains, h.words, h.watches⟩
    rw [hevict, evictBody_of ((ha p).trans hadm) hm hx ((ha x).trans hxadm), finishTaken_none,
      State.received_orphanPolicy]
  · subst hps
    rw [hevict, evictBody_self ((ha p).trans hadm) hm, finishTaken_refuse]
  · subst hps
    rw [hevict, evictBody_wrongState ((ha p).trans hadm) hm hx ((ha x).trans hxadm), finishTaken_refuse]

end Sys2Proof.Machine
end

section
/-! PROOFS. The Notice Unit's clear rule for one port (R141): its queue is emptied, the marks owed to it are discarded, and
RETIRING slots left without a mark enter FREE; and the departure steps of the Flag Unit and the Notice Unit. -/

namespace Sys2Proof.Machine

/-! ### Marks discarded (R141 step 2) -/

/-- A chain entry without the mark owed to the port. -/
def ChainEntry.withoutMark (p : Port) (c : ChainEntry) : ChainEntry := if c.owes p then { c with owed := none } else c

theorem discardChainMark_chain (p : Port) (s : State) (e x : ChainId) :
    (discardChainMark p s e).chain x = if x = e then (s.chain x).withoutMark p else s.chain x := by
  unfold discardChainMark ChainEntry.withoutMark
  by_cases hx : x = e
  · subst hx
    split <;> simp
  · rw [if_neg hx]
    split
    · exact s.modChain_chain_of_ne e x _ hx
    · rfl

theorem discardChainMark_rest (p : Port) (s : State) (e : ChainId) :
    discardChainMark p s e = { s with chains := (discardChainMark p s e).chains } := by
  unfold discardChainMark
  split <;> rfl

theorem discardSlotMarks_slot (p : Port) (s : State) (i j : SlotId) :
    (discardSlotMarks p s i).slot j = if j = i then (s.slot j).withoutMarks p else s.slot j := by
  rw [discardSlotMarks_eq, State.modSlot_slot]
  split
  next e => rw [e]
  next => rfl

/-- The discard of every mark owed to the port (R141 step 2). -/
def State.discardMarks (s : State) (p : Port) : State :=
  allChains.foldl (discardChainMark p) (allSlots.foldl (discardSlotMarks p) s)

theorem State.clearNotices_eq (s : State) (p : Port) : s.clearNotices p =
    ((s.modPort p fun r => { r with queue := [], notices := NoticeSet.clear }).discardMarks p).closeSlots := rfl

theorem State.discardMarks_rest (s : State) (p : Port) :
    s.discardMarks p = { s with slots := (s.discardMarks p).slots, chains := (s.discardMarks p).chains } := by
  unfold State.discardMarks
  generalize allSlots = l, allChains = m
  exact foldl_keeps (P := fun t : State => t = { s with slots := t.slots, chains := t.chains })
    (fun t e ht => by rw [discardChainMark_rest, ht]) m
    (foldl_keeps (P := fun t : State => t = { s with slots := t.slots, chains := t.chains })
      (fun t i ht => by rw [discardSlotMarks_eq, ht]; rfl) l rfl)

theorem State.discardMarks_slot (s : State) (p : Port) (i : SlotId) :
    (s.discardMarks p).slot i = (s.slot i).withoutMarks p := by
  have hread := (foldl_reads (read := State.slot) (g := fun sl => sl.withoutMarks p) (discardSlotMarks_slot p) allSlots
    (List.nodup_finRange 256) s i).trans (if_pos (List.mem_finRange i))
  have hchains (m : List ChainId) (t : State) : (m.foldl (discardChainMark p) t).slot i = t.slot i :=
    foldl_keeps (P := fun u : State => u.slot i = t.slot i) (fun u e hu => by rw [discardChainMark_rest]; exact hu) m rfl
  rw [State.discardMarks, hchains, hread]

theorem State.discardMarks_chain (s : State) (p : Port) (e : ChainId) :
    (s.discardMarks p).chain e = (s.chain e).withoutMark p := by
  have hread (t : State) := (foldl_reads (read := State.chain) (g := ChainEntry.withoutMark p)
    (discardChainMark_chain p) allChains (List.nodup_finRange 64) t e).trans (if_pos (List.mem_finRange e))
  have hslots (l : List SlotId) : (l.foldl (discardSlotMarks p) s).chain e = s.chain e :=
    foldl_keeps (P := fun u : State => u.chain e = s.chain e) (fun u i hu => by rw [discardSlotMarks_eq]; exact hu) l rfl
  rw [State.discardMarks, hread, hslots]

/-! ### The whole clear rule (R141 steps 1 to 3) -/

theorem State.clearNotices_slot (s : State) (p : Port) (i : SlotId) : (s.clearNotices p).slot i =
    if (s.slot i).state = .retiring ∧ ((s.slot i).withoutMarks p).marked = false then
      Slot.empty ((s.slot i).gen + 1)
    else (s.slot i).withoutMarks p := by
  rw [State.clearNotices_eq, State.closeSlots_slot, State.discardMarks_slot, State.modPort_slot,
    Slot.withoutMarks_state, Slot.withoutMarks_gen]

theorem State.clearNotices_chain (s : State) (p : Port) (e : ChainId) :
    (s.clearNotices p).chain e = (s.chain e).withoutMark p := by
  rw [State.clearNotices_eq, State.closeSlots_chain, State.discardMarks_chain, State.modPort_chain]

theorem State.clearNotices_freeList (s : State) (p : Port) : (s.clearNotices p).freeList = s.freeList
    ++ allSlots.filter fun i => (s.slot i).state == .retiring && !((s.slot i).withoutMarks p).marked := by
  have hfree (t : State) : (t.discardMarks p).freeList = t.freeList := by rw [State.discardMarks_rest]
  rw [State.clearNotices_eq, State.closeSlots_freeList, hfree]
  simp only [State.discardMarks_slot, State.modPort_slot, State.modPort_freeList, Slot.withoutMarks_state]

/-- From `s` to `t` port records, slots, chain entries and the free list change alone. -/
def State.RecordsChange (s t : State) : Prop :=
  t = { s with ports := t.ports, slots := t.slots, chains := t.chains, freeList := t.freeList }

theorem State.RecordsChange.trans {s t u : State} (h : s.RecordsChange t) (h' : t.RecordsChange u) :
    s.RecordsChange u := by
  unfold State.RecordsChange at h h' ⊢
  rw [h', h]

theorem State.RecordsChange.modPort {s t : State} (h : s.RecordsChange t) (p : Port) (f : PortRec → PortRec) :
    s.RecordsChange (t.modPort p f) := h.trans (u := t.modPort p f) rfl

theorem State.RecordsChange.watches {s t : State} (h : s.RecordsChange t) : t.watches = s.watches := by
  unfold State.RecordsChange at h
  rw [h]

theorem State.RecordsChange.of_slots_chains {s t : State}
    (h : t = { s with slots := t.slots, chains := t.chains }) : s.RecordsChange t := by
  unfold State.RecordsChange
  rw [h]

theorem State.RecordsChange.of_slots_freeList {s t : State}
    (h : t = { s with slots := t.slots, freeList := t.freeList }) : s.RecordsChange t := by
  unfold State.RecordsChange
  rw [h]

theorem State.clearNotices_rest (s : State) (p : Port) : s.RecordsChange (s.clearNotices p) := by
  rw [State.clearNotices_eq]
  have hport : s.RecordsChange (s.modPort p fun r => { r with queue := [], notices := NoticeSet.clear }) := rfl
  exact (hport.trans (.of_slots_chains (State.discardMarks_rest _ p))).trans
    (.of_slots_freeList (State.closeSlots_rest _))

theorem State.clearNotices_discards (s : State) (p : Port) : s.marksDiscarded (s.clearNotices p) p :=
  ⟨s.clearNotices_slot p, s.clearNotices_freeList p, s.clearNotices_chain p⟩

theorem State.marksDiscarded_modPort {s t : State} {p : Port} (h : s.marksDiscarded t p) (x : Port)
    (f : PortRec → PortRec) : s.marksDiscarded (t.modPort x f) p := by
  obtain ⟨hslot, hfree, hchain⟩ := h
  exact ⟨hslot, hfree, hchain⟩

/-- A slot without the marks owed to a port owes it nothing, and a FREE slot owes nothing. -/
theorem Slot.withoutMarks_owes (sl : Slot) (p : Port) :
    (sl.withoutMarks p).owesProducer p = false ∧ (sl.withoutMarks p).owesConsumer p = false := by
  have hmark : (sl.withoutMarks p).producerMark = if sl.owesProducer p then none else sl.producerMark := rfl
  refine ⟨?_, by simp [Slot.withoutMarks, Slot.owesConsumer]⟩
  rw [Slot.owesProducer, hmark]
  by_cases h : sl.owesProducer p = true
  · rw [if_pos h]
  · rw [if_neg h]
    exact Bool.eq_false_iff.mpr h

theorem Slot.empty_owes (g : BitVec 8) (p : Port) :
    (Slot.empty g).owesProducer p = false ∧ (Slot.empty g).owesConsumer p = false := by
  simp [Slot.empty, Slot.owesProducer, Slot.owesConsumer]

/-- The clear rule leaves a port owed its PENDING watches alone. -/
theorem State.clearNotices_not_owed {s : State} {p : Port} (h : ∀ k : WatchId, (s.watch k).owes p = false) :
    (s.clearNotices p).owed p = false := by
  rw [← Bool.not_eq_true, State.owed_iff]
  rintro (hn | ⟨i, hi⟩ | ⟨e, he⟩ | ⟨k, hk⟩)
  · rw [State.clearNotices_port, if_pos rfl] at hn
    exact Bool.false_ne_true hn
  · rw [State.clearNotices_slot] at hi
    split at hi
    · simp [Slot.empty_owes] at hi
    · simp [Slot.withoutMarks_owes] at hi
  · rw [State.clearNotices_chain, ChainEntry.withoutMark] at he
    split at he
    · simp [ChainEntry.owes] at he
    next hno => exact hno he
  · have hw : (s.clearNotices p).watch k = s.watch k := by
      rw [State.watch, (s.clearNotices_rest p).watches, State.watch]
    rw [hw, h k] at hk
    exact Bool.false_ne_true hk

/-! ### The statement about the Flag Unit and the Notice Unit -/

/-- The notice that ends a departure is its cause's (R141 step 4). -/
def DepCause.lastEvents (c : DepCause) : List Event :=
  match c with
  | .leaveNow => [.portNotice .left]
  | .evict => [.portNotice .evicted]
  | .portReset => []

/-- The Notice Unit's step is its clear rule, and one change of the port's record (R141). -/
theorem State.stepNotices_eq (s : State) {p : Port} {d : Departure} (h : (s.port p).departure = some d) :
    s.stepNotices p d = (s.clearNotices p).modPort p fun r =>
      { r with queue := d.cause.lastEvents, departure := some { d with next := .search } } := by
  have hport : (s.clearNotices p).port p = { s.port p with queue := [], notices := NoticeSet.clear } := by
    rw [State.clearNotices_port, if_pos rfl]
  unfold State.stepNotices State.advance State.enqueue
  dsimp only
  cases hc : d.cause <;> simp only [DepCause.notice, DepCause.lastEvents, State.modPort_modPort]
  all_goals
    refine State.modPort_congr _ p ?_
    simp [hport, h, hc]

theorem State.stepWatches_eq (s : State) {p : Port} {d : Departure} (h : (s.port p).departure = some d) : ∃ ws,
    s.stepWatches p d = State.modPort { s with watches := ws } p fun r =>
      { r with
        latch := none
        departure := some { d with
          next := .notices, counts := { d.counts with watches := (s.watchesOf p).length } } } := by
  obtain ⟨ws, hws⟩ := s.freeWatches_rest p
  refine ⟨ws, ?_⟩
  rw [State.stepWatches, hws, State.advance, State.modPort_modPort]
  refine State.modPort_congr _ p ?_
  have h' : (State.port { s with watches := ws } p).departure = some d := h
  simp [h']

theorem State.stepWatches_watch (s : State) (p : Port) (d : Departure) (k : WatchId) : (s.stepWatches p d).watch k =
    if (s.watch k).state ≠ .free ∧ (s.watch k).owner = some p then Watch.cleared else s.watch k :=
  s.freeWatches_watch p k

section
variable {s : State} {p : Port} {d : Departure} (h0 : s.inReset = false) (h : (s.port p).departure = some d)
include h0 h

/-- A departure in progress is at its next step (log entry 7). -/
theorem State.departureAt_of {st : DepStep} (hn : d.next = st) : s.departureAt p st = some d :=
  State.departureAt_eq_some_iff.mpr ⟨h0, h, hn⟩

theorem execDepartureWatchRelease_of (hn : d.next = .watches) :
    exec (.departureWatchRelease p) s = .next (s.stepWatches p d) := by
  show execDepartureWatchRelease p s = _
  rw [execDepartureWatchRelease, State.departureAt_of h0 h hn]

theorem execDepartureNoticeClear_of (hn : d.next = .notices) :
    exec (.departureNoticeClear p) s = .next (s.stepNotices p d) := by
  show execDepartureNoticeClear p s = _
  rw [execDepartureNoticeClear, State.departureAt_of h0 h hn]

end

/-- What the Notice Unit's step is on a state `t` that its clear rule has left. -/
theorem State.noticesCleared_modPort {s t : State} {p : Port} (d : Departure)
    (hport : ∀ x, t.port x = if x = p then { s.port p with queue := [], notices := NoticeSet.clear } else s.port x)
    (hclear : (∀ k : WatchId, (s.watch k).owes p = false) → t.owed p = false)
    (hdiscards : s.marksDiscarded t p) (hrest : s.RecordsChange t) {u : State}
    (hu : u = t.modPort p fun r =>
      { r with queue := d.cause.lastEvents, departure := some { d with next := .search } }) :
    u.port p = { s.port p with
      queue := d.cause.lastEvents, notices := NoticeSet.clear, departure := some { d with next := .search } }
    ∧ ((∀ k : WatchId, (s.watch k).owes p = false) → u.owed p = false)
    ∧ (∀ x : Port, x ≠ p → u.port x = s.port x) ∧ s.marksDiscarded u p ∧ s.RecordsChange u := by
  subst hu
  refine ⟨?_, fun hw => ?_, fun x hx => ?_, State.marksDiscarded_modPort hdiscards p _, hrest.modPort p _⟩
  · rw [State.modPort_port_self, hport, if_pos rfl]
  · rw [State.owed_modPort]
    · exact hclear hw
    · rfl
  · rw [State.modPort_port_of_ne _ p x _ hx, hport, if_neg hx]

/-- Settles O24: the two steps as a change of the port's record with what they free and discard. -/
theorem departureStepsAtFlagsAndNotices : Obligations.DepartureStepsAtFlagsAndNotices := by
  unfold Obligations.DepartureStepsAtFlagsAndNotices
  intro s p d h0 h
  refine ⟨fun hn => ⟨_, execDepartureWatchRelease_of h0 h hn, s.stepWatches_watch p d, ?_⟩,
    fun hn => ⟨_, execDepartureNoticeClear_of h0 h hn, ?_⟩⟩
  · obtain ⟨ws, hws⟩ := s.stepWatches_eq h
    rw [hws]
    exact ⟨State.modPort_port_self _ p _, fun x hx => State.modPort_port_of_ne _ p x _ hx, rfl⟩
  · exact State.noticesCleared_modPort d (s.clearNotices_port p) State.clearNotices_not_owed (s.clearNotices_discards p)
      (s.clearNotices_rest p) (State.stepNotices_eq s h)

end Sys2Proof.Machine
end

section
/-! PROOFS. The last step of a forced departure (R155, R173): the answers it makes, and what the port's record becomes. -/

namespace Sys2Proof.Machine

/-- A link whose command has been answered (R192). -/
def Link.answered (l : Link) (st : Status) (data : List Byte) : Link :=
  { l with
    inFlight := false
    buffer := some ⟨l.lastSeq.getD 0, st, data⟩
    cached := some ⟨l.lastSeq.getD 0, st, data⟩ }

theorem State.answer_eq (s : State) (p : Port) (r : Reply) :
    s.answer p r = s.modPort p fun pr => { pr with link := pr.link.answered r.status r.data } := rfl

/-- A record whose scan is abandoned: the scan's command, while in flight, ends with WRONG_STATE (R173, R195). -/
def PortRec.scanAbandoned (r : PortRec) : PortRec :=
  { r with
    scan := none, cursor := 0
    link := if r.scan.isSome ∧ r.link.inFlight then r.link.answered .wrongState [] else r.link }

theorem State.abandonScan_eq (s : State) (p : Port) : s.abandonScan p = s.modPort p PortRec.scanAbandoned := by
  unfold State.abandonScan State.answerInFlight
  by_cases hscan : (s.port p).scan.isSome = true
  · by_cases hflight : (s.port p).link.inFlight = true
    · rw [if_pos hscan, if_pos hflight, State.answer_eq, State.modPort_modPort]
      refine s.modPort_congr p ?_
      rw [PortRec.scanAbandoned, if_pos ⟨hscan, hflight⟩]
    · rw [if_pos hscan, if_neg hflight]
      refine s.modPort_congr p ?_
      rw [PortRec.scanAbandoned, if_neg fun hh => hflight hh.2]
  · rw [if_neg hscan]
    refine s.modPort_congr p ?_
    rw [PortRec.scanAbandoned, if_neg fun hh => hscan hh.1]

/-- The record of a port whose departure has ended, but for the answer of its own command (R155). -/
def PortRec.departed (r : PortRec) (d : Departure) : PortRec :=
  { r.scanAbandoned.endSession with
    queue := if d.prstSeen then [] else r.queue
    state := if r.prst then .down else .idle }

/-- The departure's end without the answer it makes. -/
def State.departed (s : State) (p : Port) (d : Departure) : State := s.modPort p fun r => r.departed d

theorem State.stepSearch_eq (s : State) (p : Port) (d : Departure) :
    s.stepSearch p d = match d.answer with
      | some a => (s.departed p d).answer a ⟨.ok, d.data p⟩
      | none => s.departed p d := by
  rw [State.stepSearch, State.abandonScan_eq, State.endDeparture, State.modPort_modPort]
  rfl

/-- The answer of an EVICT names its target first (R157). -/
def DepCause.target (c : DepCause) (p : Port) : List Byte :=
  match c with
  | .evict => num1 p.val
  | .leaveNow => []
  | .portReset => []

/-- The data of the answer, with the counts of R156 in their order (R156, R157). -/
theorem Departure.data_eq (d : Departure) (p : Port) : d.data p = d.cause.target p ++ num1 d.counts.withdrawn
    ++ num1 (d.counts.requeued + d.counts.cancelled + d.counts.expired)
    ++ num1 d.counts.requeued ++ num1 d.counts.cancelled ++ num1 d.counts.expired
    ++ num2 d.counts.discarded ++ num2 d.counts.orphaned ++ num2 d.counts.released ++ num1 d.counts.chains
    ++ num1 d.counts.watches := by
  unfold Departure.data DepCounts.bytes DepCause.target
  cases d.cause <;> simp only [List.append_assoc, List.nil_append]

/-- The port's record once its departure has ended and its own command, if it caused the departure, is answered. -/
theorem State.stepSearch_port_self (s : State) (p : Port) (d : Departure) :
    (s.stepSearch p d).port p = { (s.port p).departed d with
      link := if d.answer = some p then (s.port p).link.answered .ok (d.data p) else ((s.port p).departed d).link } := by
  have hself : (s.departed p d).port p = (s.port p).departed d := s.modPort_port_self p _
  have hlink : (((s.port p).departed d).link).answered .ok (d.data p) = (s.port p).link.answered .ok (d.data p) := by
    unfold PortRec.departed PortRec.endSession PortRec.scanAbandoned Link.answered
    dsimp only
    split <;> rfl
  rw [State.stepSearch_eq]
  cases ha : d.answer with
  | none => rw [if_neg nofun]; exact hself
  | some a =>
    dsimp only
    rw [State.answer_eq, State.modPort_port]
    by_cases hx : p = a
    · subst hx
      rw [if_pos rfl, if_pos rfl, hself, hlink]
    · rw [if_neg hx, if_neg fun h => hx (Option.some.inj h).symm]
      exact hself

/-- Another port is touched when the departure's answer is its command's alone (R157). -/
theorem State.stepSearch_port_of_ne (s : State) {p x : Port} (d : Departure) (hx : x ≠ p) :
    (s.stepSearch p d).port x = if d.answer = some x then
      { s.port x with link := (s.port x).link.answered .ok (d.data p) } else s.port x := by
  have hother : (s.departed p d).port x = s.port x := s.modPort_port_of_ne p x _ hx
  rw [State.stepSearch_eq]
  cases ha : d.answer with
  | none => rw [if_neg nofun]; exact hother
  | some a =>
    dsimp only
    rw [State.answer_eq, State.modPort_port]
    by_cases hxa : x = a
    · subst hxa
      rw [if_pos rfl, if_pos rfl, hother]
    · rw [if_neg hxa, if_neg fun h => hxa (Option.some.inj h).symm]
      exact hother

theorem State.stepSearch_rest (s : State) (p : Port) (d : Departure) :
    s.stepSearch p d = { s with ports := (s.stepSearch p d).ports } := by
  rw [State.stepSearch_eq]
  split <;> rfl

theorem execDepartureScanAbandon_of {s : State} {p : Port} {d : Departure} (h0 : s.inReset = false)
    (h : (s.port p).departure = some d) (hn : d.next = .search) :
    exec (.departureScanAbandon p) s = .next (s.stepSearch p d) := by
  show execDepartureScanAbandon p s = _
  rw [execDepartureScanAbandon, State.departureAt_of h0 h hn]

/-- Settles O25: the departed record, with the answer written last. -/
theorem departureEnds : Obligations.DepartureEnds := by
  unfold Obligations.DepartureEnds
  intro s p d h0 h hn
  refine ⟨_, execDepartureScanAbandon_of h0 h hn, ?_, fun x hx ha => ?_, s.stepSearch_rest p d⟩
  · intro answered n data
    have hdata : data = d.data p := (d.data_eq p).symm
    rw [hdata]
    refine ⟨s.stepSearch_port_self p d, fun a ha hx => ?_⟩
    rw [State.stepSearch_port_of_ne s d hx, if_pos ha]
    rfl
  · rw [State.stepSearch_port_of_ne s d hx, if_neg ha]

end Sys2Proof.Machine
end

section
/-! PROOFS. PRST_N_ASSERT (R145, R146): what the assertion does on every port, then the acts by the port's state; and the
end of the transaction that it abandons (R189). -/

namespace Sys2Proof.Machine

/-! ### What the assertion does whatever the port's state -/

/-- What the part has driven in a transaction that PRST_n abandons (R189). -/
def State.cutPdo (s : State) (p : Port) (cut : Option (List Byte)) : List Byte :=
  match cut with
  | some bytes => if (s.port p).reading.isSome || (s.port p).abandoned then (s.port p).pdo else s.driven p bytes
  | none => (s.port p).pdo

theorem State.modPort_unchanged (s : State) (p : Port) {f : PortRec → PortRec} (h : f (s.port p) = s.port p) :
    s.modPort p f = s := by
  have hset : s.ports.set p.val (f (s.ports[p.val])) p.isLt = s.ports := by
    rw [show f s.ports[p.val] = s.ports[p.val] from h, Vector.set_getElem_self]
  exact congrArg (fun v => { s with ports := v }) hset

theorem State.abandon_eq {s : State} (h0 : s.inReset = false) (p : Port) (cut : Option (List Byte)) :
    s.abandon p cut = s.modPort p fun r =>
      { r with
        abandoned := cut.isSome || (s.port p).reading.isSome || (s.port p).abandoned
        pdo := s.cutPdo p cut, reading := none } := by
  cases hr : (s.port p).reading with
  | some rd =>
    rw [State.abandon_reading cut hr]
    refine s.modPort_congr p ?_
    cases cut <;> simp [State.cutPdo, hr]
  | none =>
    cases cut with
    | some bytes =>
      rw [State.abandon_some bytes hr]
      refine s.modPort_congr p ?_
      simp [State.cutPdo, hr, h0]
    | none =>
      rw [State.abandon_none hr]
      refine (s.modPort_unchanged p ?_).symm
      simp only [State.cutPdo, Option.isSome_none, Bool.false_or]
      rw [← hr]

theorem Departure.voidAnswer_eq (d : Departure) (p : Port) :
    d.voidAnswer p = { d with answer := if d.answer = some p then none else d.answer } := by
  unfold Departure.voidAnswer
  split <;> rfl

/-- No departure in progress at a port answers `p` (R155, R157). -/
def PortRec.answerVoided (r : PortRec) (p : Port) : PortRec :=
  { r with departure := r.departure.map fun d => { d with answer := if d.answer = some p then none else d.answer } }

theorem State.voidAnswers_port (s : State) (p x : Port) : (s.voidAnswers p).port x = (s.port x).answerVoided p := by
  simp only [State.voidAnswers, Departure.voidAnswer_eq, State.port, PortRec.answerVoided]
  exact getElem_mapV _ s.ports x.val x.isLt

/-- The port's record once PRST_n is asserted, but for the acts by its state. -/
def State.assertedRec (s : State) (p : Port) (cut : Option (List Byte)) : PortRec :=
  { s.port p with
    prst := true, link := Link.cleared, reading := none
    abandoned := cut.isSome || (s.port p).reading.isSome || (s.port p).abandoned
    pdo := s.cutPdo p cut }

/-- An assertion of PRST_n, but for the acts by the port's state. -/
def State.asserted (s : State) (p : Port) (cut : Option (List Byte)) : State :=
  (s.modPort p fun _ => s.assertedRec p cut).voidAnswers p

theorem State.assertPrst_eq {s : State} (h0 : s.inReset = false) (p : Port) (cut : Option (List Byte)) :
    s.assertPrst p cut = (s.asserted p cut).portReset p := by
  have hmod : ((s.abandon p cut).modPort p fun r => { r with prst := true }).modLink p (fun _ => Link.cleared)
      = s.modPort p fun _ => s.assertedRec p cut := by
    rw [State.abandon_eq h0, State.modLink, State.modPort_modPort, State.modPort_modPort]
    exact s.modPort_congr p rfl
  unfold State.assertPrst
  dsimp only
  rw [hmod, h0, if_neg Bool.false_ne_true]
  rfl

theorem execPrstNAssert_of {s : State} {p : Port} {cut : Option (List Byte)} (h0 : s.inReset = false)
    (h : (s.port p).prst = false) : exec (.prstNAssert ⟨p, cut⟩) s = .next ((s.asserted p cut).portReset p) := by
  show Host.Outcome.next (if (s.port p).prst then s else s.assertPrst p cut) = _
  rw [h, if_neg Bool.false_ne_true, State.assertPrst_eq h0]

theorem State.asserted_port_self (s : State) (p : Port) (cut : Option (List Byte)) :
    (s.asserted p cut).port p = (s.assertedRec p cut).answerVoided p := by
  rw [State.asserted, State.voidAnswers_port, State.modPort_port_self]

theorem State.asserted_port_of_ne (s : State) {p x : Port} (cut : Option (List Byte)) (hx : x ≠ p) :
    (s.asserted p cut).port x = (s.port x).answerVoided p := by
  rw [State.asserted, State.voidAnswers_port, State.modPort_port_of_ne s p x _ hx]

theorem State.asserted_rest (s : State) (p : Port) (cut : Option (List Byte)) :
    s.asserted p cut = { s with ports := (s.asserted p cut).ports } := rfl

/-- The assertion keeps every port's state, queue, notice set and, when there is none, departure. -/
theorem State.asserted_port_keeps (s : State) (p x : Port) (cut : Option (List Byte)) :
    ((s.asserted p cut).port x).state = (s.port x).state ∧ ((s.asserted p cut).port x).queue = (s.port x).queue
      ∧ ((s.asserted p cut).port x).notices = (s.port x).notices
      ∧ ((s.asserted p cut).port x).departure = ((s.port x).answerVoided p).departure := by
  by_cases hx : x = p
  · subst hx
    rw [State.asserted_port_self]
    exact ⟨rfl, rfl, rfl, rfl⟩
  · rw [State.asserted_port_of_ne s cut hx]
    exact ⟨rfl, rfl, rfl, rfl⟩

theorem PortRec.answerVoided_of_none {r : PortRec} (h : r.departure = none) (p : Port) : r.answerVoided p = r := by
  obtain ⟨⟩ := r
  cases h
  rfl

/-! ### The acts by the port's state (R146's table) -/

theorem State.portReset_departing {s : State} {p : Port} {d : Departure} (h : (s.port p).departure = some d) :
    s.portReset p = s.modPort p fun r => { r with departure := some { d with prstSeen := true } } := by
  rw [State.portReset, h]
  refine s.modPort_congr p ?_
  rw [h]
  rfl

section
variable {s : State} {p : Port} (h : (s.port p).departure = none)
include h

theorem State.portReset_idle (hs : (s.port p).state = .idle) :
    s.portReset p = (s.clearNotices p).modPort p fun r => { r with cursor := 0, state := .down } := by
  rw [State.portReset, h, hs]

theorem State.portReset_session (hs : (s.port p).state = .joined ∨ (s.port p).state = .leaving) :
    s.portReset p = s.beginDeparture p .portReset s.orphanPolicy none := by
  rw [State.portReset, h]
  obtain hs | hs := hs <;> rw [hs]

end

/-- What the clear rule discards is told by the slots, the chains and the free list alone. -/
theorem State.marksDiscarded_of_ports {s u t : State} {p : Port} (hu : u = { s with ports := u.ports })
    (h : u.marksDiscarded t p) : s.marksDiscarded t p := by
  rw [hu] at h
  exact h

/-- An IDLE port's reset, on a state `t` that the clear rule has left of the asserted state. -/
theorem State.idleReset_of_cleared {s u t v : State} {p : Port}
    (hport : ∀ x, t.port x = if x = p then { u.port p with queue := [], notices := NoticeSet.clear } else u.port x)
    (hclear : (∀ k : WatchId, (u.watch k).owes p = false) → t.owed p = false)
    (hdiscards : u.marksDiscarded t p) (hrest : u.RecordsChange t) (hu : u = { s with ports := u.ports })
    (hv : v = t.modPort p fun r => { r with cursor := 0, state := .down }) :
    v.port p = { u.port p with queue := [], notices := NoticeSet.clear, cursor := 0, state := .down }
    ∧ ((∀ k : WatchId, (s.watch k).owes p = false) → v.owed p = false)
    ∧ (∀ x : Port, x ≠ p → v.port x = u.port x) ∧ s.marksDiscarded v p ∧ s.RecordsChange v := by
  have hwatch (k : WatchId) : u.watch k = s.watch k := by rw [hu]; rfl
  have hsu : s.RecordsChange u := by
    unfold State.RecordsChange
    rw [hu]
  subst hv
  refine ⟨?_, fun hw => ?_, fun x hx => ?_,
    State.marksDiscarded_modPort (State.marksDiscarded_of_ports hu hdiscards) p _, (hsu.trans hrest).modPort p _⟩
  · rw [State.modPort_port_self, hport, if_pos rfl]
  · rw [State.owed_modPort]
    · exact hclear fun k => (congrArg (Watch.owes · p) (hwatch k)).trans (hw k)
    · rfl
  · rw [State.modPort_port_of_ne _ p x _ hx, hport, if_neg hx]

/-! ### The claim dropped on the asserted state -/

/-- Two standings that a notice for JOINED ports treats alike. -/
def PortNotice.Alike (a b : PortRec × Bool) : Prop :=
  a.1.state = b.1.state ∧ a.1.queue = b.1.queue ∧ a.1.notices = b.1.notices ∧ a.2 = b.2

theorem PortNotice.Alike.told {a b : PortRec × Bool} (h : PortNotice.Alike a b) (n : PortNotice) :
    PortNotice.Alike (n.told a) (n.told b) := by
  obtain ⟨hs, hq, hn, ho⟩ := h
  unfold PortNotice.told
  rw [hs, hq, ho]
  repeat' split
  · exact ⟨hs, rfl, hn, rfl⟩
  · exact ⟨hs, hq, congrArg (NoticeSet.add · n) hn, rfl⟩
  · exact ⟨hs, hq, hn, ho⟩

/-- A drop of the claim tells two states alike whose standings are alike. -/
theorem State.claimDropped_alike {s u : State} (hm : u.manager = s.manager) (hh : u.hold = s.hold)
    (h : ∀ x, PortNotice.Alike (u.standingOf x) (s.standingOf x)) (p x : Port) :
    PortNotice.Alike ((u.claimDropped p).standingOf x) ((s.claimDropped p).standingOf x) := by
  unfold State.claimDropped
  rw [hm]
  split
  · rw [State.standingOf_dropClaim, State.standingOf_dropClaim, hh]
    split
    · exact ((h x).told _).told _
    · exact (h x).told _
  · exact h x

/-- The claim dropped on a state that differs in what its notices do not see: each port's record is its own with the queue
and the notices that the drop gives it. -/
theorem State.claimDropped_port_of_alike {s u : State} (hm : u.manager = s.manager) (hh : u.hold = s.hold)
    (h : ∀ x, PortNotice.Alike (u.standingOf x) (s.standingOf x)) (p x : Port) :
    (u.claimDropped p).port x = { u.port x with
      queue := ((s.claimDropped p).port x).queue, notices := ((s.claimDropped p).port x).notices } := by
  obtain ⟨-, hq, hn, -⟩ := State.claimDropped_alike hm hh h p x
  have hq' : ((u.claimDropped p).port x).queue = ((s.claimDropped p).port x).queue := hq
  have hn' : ((u.claimDropped p).port x).notices = ((s.claimDropped p).port x).notices := hn
  rw [State.claimDropped_port_rest, hq', hn']

theorem State.asserted_alike (s : State) (p x : Port) (cut : Option (List Byte)) :
    PortNotice.Alike ((s.asserted p cut).standingOf x) (s.standingOf x) := by
  obtain ⟨hs, hq, hn, -⟩ := s.asserted_port_keeps p x cut
  exact ⟨hs, hq, hn, State.owed_congr hn (fun _ => ⟨rfl, rfl⟩) (fun _ => ⟨rfl, rfl⟩) fun _ => ⟨rfl, rfl⟩⟩

theorem State.claimDropped_hold_eq (s : State) (p : Port) :
    (s.claimDropped p).hold = if s.manager = some p then false else s.hold := by
  split
  next h => exact State.claimDropped_hold h
  next h => rw [State.claimDropped_of_ne h]

/-- The claim dropped on a state of other port records touches those and the claim alone. -/
theorem State.claimDropped_rest_of_ports {s u : State} (hu : u = { s with ports := u.ports }) (p : Port) :
    u.claimDropped p = { s with
      ports := (u.claimDropped p).ports, manager := (s.claimDropped p).manager, hold := (s.claimDropped p).hold } := by
  have hm : (u.claimDropped p).manager = (s.claimDropped p).manager := by
    rw [State.claimDropped_manager, State.claimDropped_manager, hu]
  have hh : (u.claimDropped p).hold = (s.claimDropped p).hold := by
    rw [State.claimDropped_hold_eq, State.claimDropped_hold_eq, hu]
  rw [← hm, ← hh]
  refine (State.claimDropped_rest u p).trans ?_
  generalize u.claimDropped p = v
  rw [hu]

/-! ### The end of an abandoned transaction (R189) -/

theorem Instr.transactionPort_of_frame {i : Instr} {p : Port} {f : Frame} (h : i.frame = some (p, f)) :
    i.transactionPort = some p := by
  cases i
  all_goals cases h
  all_goals rfl

/-- Every row that ends a transaction is an end of one on its port. -/
theorem exec_endTransaction {i : Instr} {p : Port} (h : i.transactionPort = some p) :
    ∃ effect : State → State, ∀ s : State, exec i s = .next (s.endTransaction p effect) := by
  cases hf : i.frame with
  | some pf =>
    obtain ⟨x, f⟩ := pf
    obtain rfl : x = p := Option.some.inj ((Instr.transactionPort_of_frame hf).symm.trans h)
    exact ⟨_, exec_of_frame hf⟩
  | none =>
    cases i
    case responseRead x part =>
      cases part
      case whole | ends =>
        cases h
        exact ⟨_, fun s => rfl⟩
      all_goals cases h
    case commandFrameBad | retransmission | overrun | badCommand | goodFrameOnDownPort =>
      cases h
      exact ⟨_, fun s => rfl⟩
    all_goals cases hf
    all_goals cases h

end Sys2Proof.Machine
end

section
/-! PROOFS. The obligation about PRST_N_ASSERT. -/

namespace Sys2Proof.Machine

/-- A port reset in a session, on a state `u` whose ports notices treat as those of `s`. -/
theorem State.sessionReset_of_alike {s u v : State} {p : Port} (hu : u = { s with ports := u.ports })
    (halike : ∀ x, PortNotice.Alike (u.standingOf x) (s.standingOf x))
    (hother : ∀ x, x ≠ p → u.port x = (s.port x).answerVoided p) {d : Departure}
    (hv : v = (u.claimDropped p).modPort p fun r => { r with state := .leaving, departure := some d }) :
    v.port p = { u.port p with
      queue := ((s.claimDropped p).port p).queue, notices := ((s.claimDropped p).port p).notices
      state := .leaving, departure := some d }
    ∧ (∀ x : Port, x ≠ p → v.port x =
      { (s.claimDropped p).port x with departure := ((s.port x).answerVoided p).departure })
    ∧ v.manager ≠ some p ∧ (s.manager = some p → v.hold = false)
    ∧ (s.manager ≠ some p → v.manager = s.manager ∧ v.hold = s.hold)
    ∧ v = { s with ports := v.ports, manager := (s.claimDropped p).manager, hold := (s.claimDropped p).hold } := by
  have hm : u.manager = s.manager := by rw [hu]
  have hh : u.hold = s.hold := by rw [hu]
  have hport := State.claimDropped_port_of_alike hm hh halike p
  have hrest := State.claimDropped_rest_of_ports hu p
  have hmanager : v.manager = (s.claimDropped p).manager := by rw [hv, State.modPort_manager, hrest]
  have hhold : v.hold = (s.claimDropped p).hold := by rw [hv, State.modPort_hold, hrest]
  refine ⟨?_, fun x hx => ?_, ?_, fun h => ?_, fun h => ?_, ?_⟩
  · rw [hv, State.modPort_port_self, hport]
  · have hs := s.claimDropped_port_rest p x
    rw [hv, State.modPort_port_of_ne _ p x _ hx, hport, hother x hx]
    generalize (s.claimDropped p).port x = r at hs ⊢
    rw [hs]
    rfl
  · rw [hmanager]
    exact s.claimDropped_manager_ne p
  · rw [hhold, State.claimDropped_hold h]
  · rw [hmanager, hhold, State.claimDropped_of_ne h]
    exact ⟨rfl, rfl⟩
  · rw [hv]
    generalize u.claimDropped p = w at hrest ⊢
    rw [hrest]
    rfl

section
variable {s : State} {p : Port} (cut : Option (List Byte))

theorem State.asserted_portReset_idle (hd : (s.port p).departure = none) (hs : (s.port p).state = .idle) :
    ((s.asserted p cut).portReset p).port p =
      { s.assertedRec p cut with queue := [], notices := NoticeSet.clear, cursor := 0, state := .down }
    ∧ ((∀ k : WatchId, (s.watch k).owes p = false) → ((s.asserted p cut).portReset p).owed p = false)
    ∧ (∀ x : Port, x ≠ p → ((s.asserted p cut).portReset p).port x = (s.port x).answerVoided p)
    ∧ s.marksDiscarded ((s.asserted p cut).portReset p) p ∧ s.RecordsChange ((s.asserted p cut).portReset p) := by
  obtain ⟨hstate, -, -, hdep⟩ := s.asserted_port_keeps p p cut
  have hself := s.asserted_port_self p cut
  rw [PortRec.answerVoided_of_none (r := s.assertedRec p cut) hd] at hself
  rw [PortRec.answerVoided_of_none hd, hd] at hdep
  obtain ⟨hport, howed, hother, hdiscards, hrest⟩ := State.idleReset_of_cleared
    ((s.asserted p cut).clearNotices_port p) State.clearNotices_not_owed
    ((s.asserted p cut).clearNotices_discards p) ((s.asserted p cut).clearNotices_rest p) (s.asserted_rest p cut)
    (State.portReset_idle hdep (hstate.trans hs))
  rw [hself] at hport
  exact ⟨hport, howed, fun x hx => (hother x hx).trans (s.asserted_port_of_ne cut hx), hdiscards, hrest⟩

theorem State.asserted_portReset_session (hd : (s.port p).departure = none)
    (hs : (s.port p).state = .joined ∨ (s.port p).state = .leaving) :
    (s.asserted p cut).portReset p = ((s.asserted p cut).claimDropped p).modPort p fun r =>
      { r with
        state := .leaving
        departure := some ⟨.withdraw, .portReset, s.orphanPolicy, true, none, DepCounts.zero⟩ } := by
  obtain ⟨hstate, -, -, hdep⟩ := s.asserted_port_keeps p p cut
  rw [PortRec.answerVoided_of_none hd, hd] at hdep
  rw [← hstate] at hs
  rw [State.portReset_session hdep hs, State.beginDeparture_eq]
  rfl

theorem State.asserted_portReset_departing {d : Departure} (hd : (s.port p).departure = some d) :
    (s.asserted p cut).portReset p = (s.asserted p cut).modPort p fun r =>
      { r with
        departure := some { d with prstSeen := true, answer := if d.answer = some p then none else d.answer } } := by
  obtain ⟨-, -, -, hdep⟩ := s.asserted_port_keeps p p cut
  rw [PortRec.answerVoided, hd] at hdep
  exact State.portReset_departing hdep

end

/-- Settles O5: the asserted state and then each act of R146's table; an abandoned transaction's end is no more than
that. -/
theorem portResetByPortState : Obligations.PortResetByPortState := by
  unfold Obligations.PortResetByPortState
  refine ⟨?_, fun s p ha => ⟨fun i hi => ?_, fun n => ?_⟩⟩
  · intro s p cut h0 hp asserted voided
    have hexec := execPrstNAssert_of (cut := cut) h0 hp
    have hasserted : asserted = s.assertedRec p cut := rfl
    refine ⟨?_, ?_, ?_⟩
    · intro hd hs
      exact ⟨_, hexec, s.asserted_portReset_idle cut hd hs⟩
    · intro hd hs d
      have hself := s.asserted_port_self p cut
      rw [PortRec.answerVoided_of_none (r := s.assertedRec p cut) hd, ← hasserted] at hself
      have h := State.sessionReset_of_alike (s.asserted_rest p cut) (fun x => s.asserted_alike p x cut)
        (fun x hx => s.asserted_port_of_ne cut hx) (State.asserted_portReset_session cut hd hs)
      rw [hself] at h
      exact ⟨_, hexec, h⟩
    · intro d hd
      refine ⟨_, hexec, ?_, ?_, ?_⟩
      all_goals rw [State.asserted_portReset_departing cut hd]
      · rw [State.modPort_port_self, State.asserted_port_self]
        rfl
      · intro x hx
        rw [State.modPort_port_of_ne _ p x _ hx, State.asserted_port_of_ne s cut hx]
        rfl
      · rfl
  · obtain ⟨effect, heffect⟩ := exec_endTransaction hi
    rw [heffect, State.endTransaction_abandoned effect ha]
  · show Host.Outcome.next (if s.inReset || (s.port p).abandoned then s else s.clockRead p n) = _
    rw [ha, Bool.or_true, if_pos rfl]

end Sys2Proof.Machine
end

section
/-! PROOFS. Which parameter blocks the parameter step passes (R196): a block that a parser takes keeps its command's rule. -/

namespace Sys2Proof.Machine

/-! ### Bytes and words -/

theorem finOf_isSome {n : Nat} {b : Byte} {f : Fin n} (h : finOf n b = some f) : b.toNat < n := by
  unfold finOf at h
  split at h
  · assumption
  · cases h

theorem yesNoOf_le {b : Byte} {v : Bool} (h : yesNoOf b = some v) : b.toNat ≤ 1 := by
  unfold yesNoOf at h
  repeat' split at h
  all_goals simp_all

theorem orphanOf_le {b : Byte} {o : OrphanPolicy} (h : orphanOf b = some o) : b.toNat ≤ 1 := by
  unfold orphanOf at h
  repeat' split at h
  all_goals simp_all

theorem fnOf_le {b : Byte} {f : CombineFn} (h : fnOf b = some f) : b.toNat ≤ 3 := by
  unfold fnOf at h
  repeat' split at h
  all_goals simp_all

theorem whenOf_le {b : Byte} {w : When} (h : whenOf b = some w) : b.toNat ≤ 1 := by
  unfold whenOf at h
  repeat' split at h
  all_goals simp_all

theorem outcomeOf_le {b : Byte} {st : FinishStatus} (h : outcomeOf b = some st) : b.toNat ≤ 2 := by
  unfold outcomeOf at h
  repeat' split at h
  all_goals simp_all

theorem watchModeOf_le {b : Byte} {m : WatchMode} (h : watchModeOf b = some m) : b.toNat ≤ 1 := by
  unfold watchModeOf at h
  repeat' split at h
  all_goals simp_all

theorem classOrAny_le {b : Byte} {c : Option ClassId} (h : classOrAny b = some c) :
    b.toNat ≤ 7 ∨ b.toNat = 0xFF := by
  unfold classOrAny at h
  split at h
  next e => exact .inr (by rw [e]; rfl)
  next =>
    obtain ⟨f, hf, -⟩ := Option.map_eq_some_iff.mp h
    exact .inl (Nat.le_of_lt_succ (finOf_isSome hf))

theorem stateSetOf_le {b : Byte} {st : StateSet} (h : stateSetOf b = some st) : 1 ≤ b.toNat ∧ b.toNat ≤ 31 := by
  unfold stateSetOf at h
  split at h
  · cases h
  next hn =>
    obtain ⟨h0, h32⟩ := not_or.mp hn
    have h0' : b.toNat ≠ 0 := fun e => h0 (BitVec.eq_of_toNat_eq e)
    omega

theorem half_toNat_eq (lo hi : Byte) : (half lo hi).toNat = lo.toNat + 256 * hi.toNat := by
  rw [half, BitVec.toNat_append, Nat.shiftLeft_eq, Nat.mul_comm, ← Nat.two_pow_add_eq_or_of_lt lo.isLt]
  omega

theorem wordsOf_length {bs : List Byte} {ws : List Word} (h : wordsOf bs = some ws) : bs.length = 4 * ws.length := by
  induction bs using wordsOf.induct generalizing ws with
  | case1 => cases h; rfl
  | case2 b0 b1 b2 b3 rest ih =>
    rw [wordsOf] at h
    obtain ⟨vs, hvs, rfl⟩ := Option.map_eq_some_iff.mp h
    simp only [List.length_cons, ih hvs]
    omega
  | case3 bs h0 h4 =>
    rw [wordsOf.eq_3 _ h0 h4] at h
    cases h

theorem getLsbD_iff (b : Byte) (k : Nat) : b.getLsbD k = true ↔ b.toNat / 2 ^ k % 2 = 1 := by
  rw [BitVec.getLsbD, Nat.testBit_eq_decide_div_mod_eq, decide_eq_true_iff]

/-- A completion action's bytes, where the block has one (R21, R198). -/
theorem parseAction_some {present : Bool} {bs tail : List Byte} {a : Option Action}
    (h : parseAction present bs = some (a, tail)) :
    bs.length = (if present then 11 else 0) + tail.length
      ∧ (present = true → byteAt bs 0 ≤ 63 ∧ byteAt bs 1 ≤ 3 ∧ byteAt bs 2 ≤ 1) := by
  cases present with
  | false =>
    cases h
    exact ⟨(Nat.zero_add _).symm, nofun⟩
  | true =>
    simp only [parseAction, if_true] at h
    repeat' split at h
    · next f fn w o0 o1 o2 o3 m0 m1 m2 m3 rest _ _ _ hf hfn hw =>
      cases h
      exact ⟨by simp only [List.length_cons, if_true]; omega,
        fun _ => ⟨Nat.le_of_lt_succ (finOf_isSome hf), fnOf_le hfn, whenOf_le hw⟩⟩
    all_goals cases h

/-! ### Parameter blocks -/

section
variable {ps : List Byte}

theorem parseHandle_length (h : (parseHandle ps).isSome = true) : ps.length = 2 := by
  unfold parseHandle at h
  split at h
  · rfl
  · cases h

theorem parseEmpty_length (h : (parseEmpty ps).isSome = true) : ps.length = 0 := by
  unfold parseEmpty at h
  split at h
  · rfl
  · cases h

theorem parseFin_block {n : Nat} (h : (parseFin n ps).isSome = true) : ps.length = 1 ∧ byteAt ps 0 < n := by
  obtain ⟨f, hf⟩ := Option.isSome_iff_exists.mp h
  unfold parseFin at hf
  split at hf
  · exact ⟨rfl, finOf_isSome hf⟩
  · cases hf

theorem parseJoin_block (h : (parseJoin ps).isSome = true) :
    ps.length = 4 ∧ byteAt ps 0 % 4 ≠ 0 ∧ (byteAt ps 0 / 2 % 2 = 1 → 1 ≤ byteAt ps 1
      ∧ byteAt ps 1 ≤ 16 ∧ byteAt ps 3 ≤ 15) := by
  unfold parseJoin at h
  split at h
  next r c m f =>
    have h0 : r.getLsbD 0 = true ↔ r.toNat / 1 % 2 = 1 := getLsbD_iff r 0
    have h1 : r.getLsbD 1 = true ↔ r.toNat / 2 % 2 = 1 := getLsbD_iff r 1
    simp only [byteAt, List.length_cons, List.length_nil, List.getD_cons_zero, List.getD_cons_succ,
      true_and]
    dsimp only at h
    split at h
    · cases h
    next hroles =>
      have hsome : r.getLsbD 0 = true ∨ r.getLsbD 1 = true := by
        cases h0' : r.getLsbD 0 <;> cases h1' : r.getLsbD 1 <;> simp_all
      rw [h0, h1] at hsome
      refine ⟨by omega, fun hc => ?_⟩
      rw [if_pos (h1.mpr hc)] at h
      split at h
      · cases h
      · omega
  next => cases h

theorem parseService_block (h : (parseService ps).isSome = true) : ps.length = 2 ∧ byteAt ps 1 ≤ 15 := by
  unfold parseService at h
  split at h
  next m f =>
    split at h
    · cases h
    next hf => simpa [byteAt] using hf
  next => cases h

theorem parseLeave_block (h : (parseLeave ps).isSome = true) :
    ps.length = 2 ∧ (byteAt ps 0 = 0 ∨ byteAt ps 0 = 1 ∧ byteAt ps 1 ≤ 1) := by
  unfold parseLeave at h
  split at h
  next m o =>
    refine ⟨rfl, ?_⟩
    split at h
    next e => exact .inl (congrArg BitVec.toNat e)
    split at h
    next e =>
      rw [Option.isSome_map] at h
      obtain ⟨v, hv⟩ := Option.isSome_iff_exists.mp h
      exact .inr ⟨congrArg BitVec.toNat e, orphanOf_le hv⟩
    next => cases h
  next => cases h

theorem parseSubmit_block (h : (parseSubmit ps).isSome = true) : submitBlock ps := by
  unfold parseSubmit at h
  split at h
  next c u fl ch t0 t1 l0 l1 a n rest =>
    have h2 : fl.getLsbD 2 = true ↔ fl.toNat / 4 % 2 = 1 := getLsbD_iff fl 2
    split at h
    next cls action tail hc ha =>
      split at h
      next payload hw =>
        split at h
        · cases h
        next hn =>
          obtain ⟨hlen, hact⟩ := parseAction_some ha
          have hpay := wordsOf_length hw
          have hcls := finOf_isSome hc
          simp only [h2] at hlen hact
          simp only [submitBlock, byteAt, List.length_cons, List.getD_cons_zero, List.getD_cons_succ]
          refine ⟨by omega, by omega, by omega, by omega, by omega, by omega, hact⟩
      · cases h
    · cases h
  next => cases h

theorem parseRenew_block (h : (parseRenew ps).isSome = true) : ps.length = 4 := by
  unfold parseRenew at h
  split at h
  · rfl
  · cases h

theorem parseReturn_block (h : (parseReturn ps).isSome = true) : ps.length = 3 ∧ byteAt ps 2 ≤ 1 := by
  unfold parseReturn at h
  split at h
  next s g a =>
    rw [Option.isSome_map] at h
    obtain ⟨v, hv⟩ := Option.isSome_iff_exists.mp h
    simpa [byteAt] using yesNoOf_le hv
  next => cases h

theorem parseComplete_block (h : (parseComplete ps).isSome = true) :
    5 ≤ ps.length ∧ byteAt ps 2 ≤ 2 ∧ byteAt ps 4 ≤ 4 ∧ ps.length = 5 + 4 * byteAt ps 4 := by
  unfold parseComplete at h
  split at h
  next s g o u n rest =>
    split at h
    next st ws ho hw =>
      split at h
      · cases h
      next hn =>
        have hlen := wordsOf_length hw
        have hout := outcomeOf_le ho
        simp only [byteAt, List.length_cons, List.getD_cons_zero, List.getD_cons_succ]
        omega
    · cases h
  next => cases h

theorem parseCombine_block (h : (parseCombine ps).isSome = true) :
    ps.length = 16 ∧ byteAt ps 0 ≤ 63 ∧ byteAt ps 1 ≤ 3 ∧ byteAt ps 2 ≤ 1 ∧ byteAt ps 3 ≤ 1 := by
  unfold parseCombine at h
  split at h
  next =>
    split at h
    next hf hfn hsrc hcond =>
      have h1 := finOf_isSome hf
      have h2 := fnOf_le hfn
      have h3 := yesNoOf_le hsrc
      have h4 := yesNoOf_le hcond
      simp only [byteAt, List.length_cons, List.length_nil, List.getD_cons_zero, List.getD_cons_succ,
        true_and]
      omega
    · cases h
  next => cases h

theorem parseWatch_block (h : (parseWatch ps).isSome = true) :
    ps.length = 10 ∧ byteAt ps 0 ≤ 63 ∧ byteAt ps 1 ≤ 1 := by
  unfold parseWatch at h
  split at h
  next =>
    split at h
    next hf hm =>
      have h1 := finOf_isSome hf
      have h2 := watchModeOf_le hm
      simp only [byteAt, List.length_cons, List.length_nil, List.getD_cons_zero, List.getD_cons_succ,
        true_and]
      omega
    · cases h
  next => cases h

theorem parseFetch_block (h : (parseFetch ps).isSome = true) : ps.length = 1 ∧ 1 ≤ byteAt ps 0 ∧ byteAt ps 0 ≤ 8 := by
  unfold parseFetch at h
  split at h
  next =>
    split at h
    · cases h
    next hn =>
      simp only [byteAt, List.length_cons, List.length_nil, List.getD_cons_zero, true_and]
      omega
  next => cases h

theorem parseFind_block (h : (parseFind ps).isSome = true) :
    ps.length = 7 ∧ byteAt ps 0 ≤ 1 ∧ 1 ≤ byteAt ps 1 ∧ byteAt ps 1 ≤ 31
      ∧ (byteAt ps 2 ≤ 7 ∨ byteAt ps 2 = 0xFF) := by
  unfold parseFind at h
  split at h
  next =>
    split at h
    next hm hst hc =>
      have h1 := yesNoOf_le hm
      have h2 := stateSetOf_le hst
      have h3 := classOrAny_le hc
      simp only [byteAt, List.length_cons, List.length_nil, List.getD_cons_zero, List.getD_cons_succ,
        true_and]
      omega
    · cases h
  next => cases h

theorem parseCancelMatch_block (h : (parseCancelMatch ps).isSome = true) :
    ps.length = 6 ∧ byteAt ps 0 ≤ 1 ∧ (byteAt ps 1 ≤ 7 ∨ byteAt ps 1 = 0xFF) := by
  unfold parseCancelMatch at h
  split at h
  next =>
    split at h
    next hi hc =>
      have h1 := yesNoOf_le hi
      have h2 := classOrAny_le hc
      simp only [byteAt, List.length_cons, List.length_nil, List.getD_cons_zero, List.getD_cons_succ,
        true_and]
      omega
    · cases h
  next => cases h

theorem parsePolicy_block (h : (parsePolicy ps).isSome = true) :
    ps.length = 8 ∧ byteAt ps 0 ≤ 7 ∧ 1 ≤ byteAt ps 1 ∧ 1 ≤ byteAt ps 2 ∧ byteAt ps 2 ≤ 7 ∧ byteAt ps 3 ≤ 15
      ∧ 1 ≤ byteAt ps 4 + byteAt ps 5 := by
  unfold parsePolicy at h
  split at h
  next =>
    split at h
    next hc =>
      split at h
      · cases h
      next hn =>
        have h1 := finOf_isSome hc
        rw [half_toNat_eq] at hn
        simp only [byteAt, List.length_cons, List.length_nil, List.getD_cons_zero, List.getD_cons_succ,
          true_and]
        omega
    · cases h
  next => cases h

theorem parseDivisor_block (h : (parseDivisor ps).isSome = true) : ps.length = 2 ∧ 1 ≤ byteAt ps 0 + byteAt ps 1 := by
  unfold parseDivisor at h
  split at h
  next =>
    split at h
    · cases h
    next hn =>
      rw [half_toNat_eq] at hn
      simp only [byteAt, List.length_cons, List.length_nil, List.getD_cons_zero, List.getD_cons_succ,
        true_and]
      omega
  next => cases h

theorem parseQuota_block (h : (parseQuota ps).isSome = true) :
    ps.length = 3 ∧ byteAt ps 0 ≤ 3 ∧ byteAt ps 1 + 256 * byteAt ps 2 ≤ 256 := by
  unfold parseQuota at h
  split at h
  next =>
    split at h
    next hp =>
      split at h
      · cases h
      next hn =>
        have h1 := finOf_isSome hp
        rw [half_toNat_eq] at hn
        simp only [byteAt, List.length_cons, List.length_nil, List.getD_cons_zero, List.getD_cons_succ,
          true_and]
        omega
    · cases h
  next => cases h

theorem parseOrphan_block (h : (parseOrphan ps).isSome = true) : ps.length = 1 ∧ byteAt ps 0 ≤ 1 := by
  obtain ⟨o, ho⟩ := Option.isSome_iff_exists.mp h
  unfold parseOrphan at ho
  split at ho
  · simpa [byteAt] using orphanOf_le ho
  · cases ho

theorem parseChainId_block (h : (parseChainId ps).isSome = true) : ps.length = 1 ∧ byteAt ps 0 ≠ 0 := by
  unfold parseChainId at h
  split at h
  next c =>
    split at h
    · cases h
    next hn =>
      have hne : c.toNat ≠ 0 := fun e => hn (BitVec.eq_of_toNat_eq e)
      simpa [byteAt] using hne
  next => cases h

theorem parseSlot_block (h : (parseSlot ps).isSome = true) : ps.length = 1 := by
  unfold parseSlot at h
  split at h
  · rfl
  · cases h

theorem parseEvict_block {p : Port} (h : (parseEvict p ps).isSome = true) :
    ps.length = 1 ∧ byteAt ps 0 ≤ 3 ∧ byteAt ps 0 ≠ p.val := by
  unfold parseEvict at h
  split at h
  next t ht =>
    split at h
    · cases h
    next hn =>
      unfold parseFin at ht
      split at ht
      next b =>
        unfold finOf at ht
        split at ht
        next hb =>
          cases ht
          have hne : b.toNat ≠ p.val := fun e => hn (Fin.ext e)
          simp only [byteAt, List.length_cons, List.length_nil, List.getD_cons_zero, true_and]
          omega
        · cases ht
      · cases ht
  next => cases h

end

end Sys2Proof.Machine
end

section
/-! PROOFS. The checks that every host command meets before its own (R147, R196): port state, role or claim, parameters. -/

namespace Sys2Proof.Machine

/-- What a taken command's body `t` answers when port state, role or claim, or parameter block is refused. -/
structure Gated (s : State) (p : Port) (states : List PortState) (fits : Bool) (st : Status) (block : Bool)
    (t : Taken) : Prop where
  state : s.admits p states = false → t = refuse .wrongState s
  role : s.admits p states = true → fits = false → t = refuse st s
  block : s.admits p states = true → fits = true → block = false → t = refuse .badParam s

section
variable {α : Type} {s : State} {p : Port} {states : List PortState} {fits : Bool} {st : Status} {params : Option α}
  {block : Bool} {t : Taken}

/-- A body that reads its block with a parser which takes no block that the rule refuses. -/
theorem Gated.of_params (hb : params.isSome = true → block = true)
    (h1 : s.admits p states = false → t = refuse .wrongState s)
    (h2 : s.admits p states = true → fits = false → t = refuse st s)
    (h3 : s.admits p states = true → fits = true → params = none → t = refuse .badParam s) :
    Gated s p states fits st block t where
  state := h1
  role := h2
  block := fun ha hf hno =>
    h3 ha hf (Option.not_isSome_iff_eq_none.mp fun hs => Bool.false_ne_true (hno.symm.trans (hb hs)))

/-- A body without a role or claim step. -/
theorem Gated.of_params_only (hb : params.isSome = true → block = true)
    (h1 : s.admits p states = false → t = refuse .wrongState s)
    (h3 : s.admits p states = true → params = none → t = refuse .badParam s) :
    Gated s p states true st block t := .of_params hb h1 (fun _ => nofun) fun ha _ => h3 ha

end

/-! ### Each command's body -/

section
variable (s : State) (p : Port) (q : Seq) (ps : List Byte)

theorem managerCommand_gated {α : Type} {params : Option α} {block : Bool} (k : α → Taken)
    (hb : params.isSome = true → block = true) :
    Gated s p inSession (s.isManager p) .notManager block (managerCommand p params s k) :=
  .of_params hb (fun h => by simp [managerCommand, h]) (fun h hf => by simp [managerCommand, h, hf])
    fun h hf hp => by simp [managerCommand, h, hf, hp]

theorem heldCommand_gated {α : Type} {params : Option α} {block : Bool} (handle : α → Handle) (k : α → Taken)
    (hb : params.isSome = true → block = true) :
    Gated s p inSession (s.port p).roles.consumer .notPermitted block (heldCommand p params handle s k) :=
  .of_params hb (fun h => by simp [heldCommand, h]) (fun h hf => by simp [heldCommand, h, hf])
    fun h hf hp => by simp [heldCommand, h, hf, hp]

theorem offerCommand_gated {block : Bool} (k : Handle → Taken) (hb : (parseHandle ps).isSome = true → block = true) :
    Gated s p inSession (s.port p).roles.consumer .notPermitted block (offerCommand p ps s k) :=
  .of_params hb (fun h => by simp [offerCommand, h]) (fun h hf => by simp [offerCommand, h, hf])
    fun h hf hp => by simp [offerCommand, h, hf, hp]

theorem joinBody_gated : Gated s p [.idle] true .notManager (Instr.join p q ps).blockOk (joinBody p ps s) :=
  .of_params_only (fun h => decide_eq_true (parseJoin_block h)) (fun h => by simp [joinBody, h])
    fun h hp => by simp [joinBody, h, hp]

theorem setServiceBody_gated : Gated s p inJoined (s.port p).roles.consumer .notPermitted
    (Instr.setService p q ps).blockOk (setServiceBody p ps s) :=
  .of_params (fun h => decide_eq_true (parseService_block h)) (fun h => by simp [setServiceBody, h])
    (fun h hf => by simp [setServiceBody, h, hf]) fun h hf hp => by simp [setServiceBody, h, hf, hp]

theorem leaveBody_gated_drain (hd : ps.head? ≠ some 1) :
    Gated s p inJoined true .notManager (Instr.leaveDrain p q ps).blockOk (leaveBody p ps s) :=
  .of_params_only (fun h => decide_eq_true (parseLeave_block h))
    (fun h => by simp only [leaveBody, if_neg hd, h]; rfl) fun h hp => by simp only [leaveBody, if_neg hd, h, hp]; rfl

theorem leaveBody_gated_now (hn : ps.head? = some 1) :
    Gated s p inSession true .notManager (Instr.leaveNow p q ps).blockOk (leaveBody p ps s) :=
  .of_params_only (fun h => decide_eq_true (parseLeave_block h))
    (fun h => by simp only [leaveBody, if_pos hn, h]; rfl) fun h hp => by simp only [leaveBody, if_pos hn, h, hp]; rfl

theorem portStatusBody_gated : Gated s p inAny (ps.head?.all (fun b => b.toNat == p.val) || s.isManager p) .notManager
    (Instr.portStatus p q ps).blockOk (portStatusBody p ps s) := by
  have hother : namesOther p ps = !ps.head?.all fun b => b.toNat == p.val := by
    cases ps with
    | nil => rfl
    | cons b _ => simp [namesOther, bne]
  have hb (h : (parseFin 4 ps).isSome = true) : (Instr.portStatus p q ps).blockOk = true := by
    obtain ⟨hlen, hlt⟩ := parseFin_block h
    exact decide_eq_true ⟨hlen, Nat.le_of_lt_succ hlt⟩
  refine .of_params hb (fun h => by simp [portStatusBody, h]) (fun h hf => ?_) fun h hf hp => ?_
  · simp only [Bool.or_eq_false_iff] at hf
    simp [portStatusBody, h, hother, hf]
  · simp only [Bool.or_eq_true] at hf
    obtain hf | hf := hf <;> simp [portStatusBody, h, hother, hf, hp]

theorem claimManagerBody_gated :
    Gated s p inJoined true .notManager (Instr.claimManager p q ps).blockOk (claimManagerBody p ps s) :=
  .of_params_only (fun h => decide_eq_true (parseEmpty_length h)) (fun h => by simp [claimManagerBody, h])
    fun h hp => by simp [claimManagerBody, h, hp]

theorem releaseManagerBody_gated : Gated s p inJoined (s.isManager p) .notManager
    (Instr.releaseManager p q ps).blockOk (releaseManagerBody p ps s) :=
  .of_params (fun h => decide_eq_true (parseEmpty_length h)) (fun h => by simp [releaseManagerBody, h])
    (fun h hf => by simp [releaseManagerBody, h, hf]) fun h hf hp => by simp [releaseManagerBody, h, hf, hp]

theorem submitBody_gated : Gated s p inJoined (s.port p).roles.producer .notPermitted (Instr.submit p q ps).blockOk
    (submitBody p ps s) :=
  .of_params (fun h => decide_eq_true (parseSubmit_block h)) (fun h => by simp [submitBody, h])
    (fun h hf => by simp [submitBody, h, hf]) fun h hf hp => by simp [submitBody, h, hf, hp]

theorem cancelBody_gated : Gated s p inSession ((s.port p).roles.producer || s.isManager p) .notPermitted
    (Instr.cancel p q ps).blockOk (cancelBody p ps s) :=
  .of_params (fun h => decide_eq_true (parseHandle_length h)) (fun h => by simp [cancelBody, h])
    (fun h hf => by simp only [cancelBody, h, hf]; rfl) fun h hf hp => by simp only [cancelBody, h, hf, hp]; rfl

theorem reapBody_gated : Gated s p inSession (s.port p).roles.producer .notPermitted (Instr.reap p q ps).blockOk
    (reapBody p ps s) :=
  .of_params (fun h => decide_eq_true (parseHandle_length h)) (fun h => by simp [reapBody, h])
    (fun h hf => by simp [reapBody, h, hf]) fun h hf hp => by simp [reapBody, h, hf, hp]

theorem chainResetBody_gated : Gated s p inSession (s.port p).roles.producer .notPermitted
    (Instr.chainReset p q ps).blockOk (chainResetBody p ps s) :=
  .of_params (fun h => decide_eq_true (parseChainId_block h)) (fun h => by simp [chainResetBody, h])
    (fun h hf => by simp [chainResetBody, h, hf]) fun h hf hp => by simp [chainResetBody, h, hf, hp]

theorem flagReadBody_gated :
    Gated s p inSession true .notManager (Instr.flagRead p q ps).blockOk (flagReadBody p ps s) :=
  .of_params_only (fun h => decide_eq_true ((parseFin_block h).imp_right Nat.le_of_lt_succ))
    (fun h => by simp [flagReadBody, h]) fun h hp => by simp [flagReadBody, h, hp]

theorem flagCombineBody_gated :
    Gated s p inSession true .notManager (Instr.flagCombine p q ps).blockOk (flagCombineBody p ps s) :=
  .of_params_only (fun h => decide_eq_true (parseCombine_block h)) (fun h => by simp [flagCombineBody, h])
    fun h hp => by simp [flagCombineBody, h, hp]

theorem watchSetBody_gated :
    Gated s p inJoined true .notManager (Instr.watchSet p q ps).blockOk (watchSetBody p ps s) :=
  .of_params_only (fun h => decide_eq_true (parseWatch_block h)) (fun h => by simp [watchSetBody, h])
    fun h hp => by simp [watchSetBody, h, hp]

theorem watchClearBody_gated :
    Gated s p inSession true .notManager (Instr.watchClear p q ps).blockOk (watchClearBody p ps s) :=
  .of_params_only (fun h => decide_eq_true ((parseFin_block h).imp_right Nat.le_of_lt_succ))
    (fun h => by simp [watchClearBody, h]) fun h hp => by simp [watchClearBody, h, hp]

theorem fetchBody_gated : Gated s p inAny true .notManager (Instr.fetch p q ps).blockOk (fetchBody p ps s) :=
  .of_params_only (fun h => decide_eq_true (parseFetch_block h)) (fun h => by simp [fetchBody, h])
    fun h hp => by simp [fetchBody, h, hp]

theorem queryBody_gated : Gated s p inSession true .notManager (Instr.query p q ps).blockOk (queryBody p ps s) :=
  .of_params_only (fun h => decide_eq_true (parseHandle_length h)) (fun h => by simp [queryBody, h])
    fun h hp => by simp [queryBody, h, hp]

theorem findBody_gated : Gated s p inSession true .notManager (Instr.find p q ps).blockOk (findBody p ps s) :=
  .of_params_only (fun h => decide_eq_true (parseFind_block h)) (fun h => by simp [findBody, h])
    fun h hp => by simp [findBody, h, hp]

theorem cancelMatchBody_gated : Gated s p inSession ((s.port p).roles.producer || s.isManager p) .notPermitted
    (Instr.cancelMatch p q ps).blockOk (cancelMatchBody p ps s) :=
  .of_params (fun h => decide_eq_true (parseCancelMatch_block h)) (fun h => by simp [cancelMatchBody, h])
    (fun h hf => by simp only [cancelMatchBody, h, hf]; rfl)
    fun h hf hp => by simp only [cancelMatchBody, h, hf, hp]; rfl

theorem readCountsBody_gated :
    Gated s p inAny true .notManager (Instr.readCounts p q ps).blockOk (readCountsBody p ps s) :=
  .of_params_only (fun h => decide_eq_true (parseEmpty_length h)) (fun h => by simp [readCountsBody, h])
    fun h hp => by simp [readCountsBody, h, hp]

end

end Sys2Proof.Machine
end

section
/-! PROOFS. The checks of R147 and R196 for the command that a frame carries. -/

namespace Sys2Proof.Machine


/-- The status with which the role or claim step refuses the command, where its row in R147's table has such a step. -/
def roleStatus (i : Instr) : Status :=
  if i.isConsumerRow || i.isProducerRow || i.isCancelRow then .notPermitted else .notManager

theorem roleStatus_of_manager {i : Instr} (h : i.isManagerRow = true) : roleStatus i = .notManager := by
  cases i
  all_goals cases h
  all_goals rfl

theorem roleStatus_of_role {i : Instr} (h : (i.isConsumerRow || i.isProducerRow || i.isCancelRow) = true) :
    roleStatus i = .notPermitted := if_pos h

/-- The role or claim step of a command whose row in R147's table says all of it. -/
def State.rowFits (s : State) (p : Port) (manager consumer producer cancel : Bool) : Bool :=
  (!manager || s.isManager p) && (!consumer || (s.port p).roles.consumer) && (!producer || (s.port p).roles.producer)
    && (!cancel || (s.port p).roles.producer || s.isManager p)

section
variable {i : Instr} (s : State) (p : Port)

theorem State.roleFits_of_manager (h : i.isManagerRow = true) : s.roleFits p i = s.isManager p := by
  have hrow : s.roleFits p i = (s.rowFits p true false false false && true) := by
    cases i
    all_goals cases h
    all_goals rfl
  rw [hrow]
  simp [State.rowFits]

theorem State.roleFits_of_consumer (h : i.isConsumerRow = true) : s.roleFits p i = (s.port p).roles.consumer := by
  have hrow : s.roleFits p i = (s.rowFits p false true false false && true) := by
    cases i
    all_goals cases h
    all_goals rfl
  rw [hrow]
  simp [State.rowFits]

theorem State.roleFits_of_producer (h : i.isProducerRow = true) : s.roleFits p i = (s.port p).roles.producer := by
  have hrow : s.roleFits p i = (s.rowFits p false false true false && true) := by
    cases i
    all_goals cases h
    all_goals rfl
  rw [hrow]
  simp [State.rowFits]

theorem State.roleFits_of_cancel (h : i.isCancelRow = true) :
    s.roleFits p i = ((s.port p).roles.producer || s.isManager p) := by
  have hrow : s.roleFits p i = (s.rowFits p false false false true && true) := by
    cases i
    all_goals cases h
    all_goals rfl
  rw [hrow]
  simp [State.rowFits]

end

section
variable {i : Instr} {p : Port} {f : Frame} (h : i.frame = some (p, f)) (s : State)
include h

theorem commandBody_gated_manager (hm : i.isManagerRow = true) :
    Gated s p i.admittedIn (s.roleFits p i) (roleStatus i) i.blockOk (commandBody p f s) := by
  rw [s.roleFits_of_manager p hm, roleStatus_of_manager hm]
  cases i
  case hold | resume | clearAll =>
    cases h
    exact managerCommand_gated s p _ fun h => decide_eq_true (parseEmpty_length h)
  case pauseClass | unpauseClass =>
    cases h
    exact managerCommand_gated s p _ fun h => decide_eq_true ((parseFin_block h).imp_right Nat.le_of_lt_succ)
  case setClassPolicy p q ps => cases h; exact managerCommand_gated s p _ fun h => decide_eq_true (parsePolicy_block h)
  case setTickDivisor p q ps => cases h; exact managerCommand_gated s p _ fun h => decide_eq_true (parseDivisor_block h)
  case setQuota p q ps => cases h; exact managerCommand_gated s p _ fun h => decide_eq_true (parseQuota_block h)
  case setOrphanPolicy p q ps => cases h; exact managerCommand_gated s p _ fun h => decide_eq_true (parseOrphan_block h)
  case evict p q ps => cases h; exact managerCommand_gated s p _ fun h => decide_eq_true (parseEvict_block h)
  case purge p q ps => cases h; exact managerCommand_gated s p _ fun h => decide_eq_true (parseSlot_block h)
  all_goals cases hm

theorem commandBody_gated_consumer (hc : i.isConsumerRow = true) :
    Gated s p i.admittedIn (s.roleFits p i) (roleStatus i) i.blockOk (commandBody p f s) := by
  rw [s.roleFits_of_consumer p hc, roleStatus_of_role (by rw [hc]; rfl)]
  cases i
  case setService p q ps => cases h; exact setServiceBody_gated s p q ps
  case accept p q ps =>
    cases h
    exact offerCommand_gated s p ps _ fun h => decide_eq_true (parseHandle_length h)
  case decline p q ps =>
    cases h
    exact offerCommand_gated s p ps _ fun h => decide_eq_true (parseHandle_length h)
  case renew p q ps => cases h; exact heldCommand_gated s p _ _ fun h => decide_eq_true (parseRenew_block h)
  case returnJob p q ps => cases h; exact heldCommand_gated s p _ _ fun h => decide_eq_true (parseReturn_block h)
  case complete p q ps => cases h; exact heldCommand_gated s p _ _ fun h => decide_eq_true (parseComplete_block h)
  all_goals cases hc

theorem commandBody_gated_producer (hp : i.isProducerRow = true) :
    Gated s p i.admittedIn (s.roleFits p i) (roleStatus i) i.blockOk (commandBody p f s) := by
  rw [s.roleFits_of_producer p hp, roleStatus_of_role (by rw [hp, Bool.or_true]; rfl)]
  cases i
  case submit p q ps => cases h; exact submitBody_gated s p q ps
  case reap p q ps => cases h; exact reapBody_gated s p q ps
  case chainReset p q ps => cases h; exact chainResetBody_gated s p q ps
  all_goals cases hp

theorem commandBody_gated_cancel (hc : i.isCancelRow = true) :
    Gated s p i.admittedIn (s.roleFits p i) (roleStatus i) i.blockOk (commandBody p f s) := by
  rw [s.roleFits_of_cancel p hc, roleStatus_of_role (by rw [hc, Bool.or_true])]
  cases i
  case cancel p q ps => cases h; exact cancelBody_gated s p q ps
  case cancelMatch p q ps => cases h; exact cancelMatchBody_gated s p q ps
  all_goals cases hc

/-- The body of every host command meets the checks of its row. -/
theorem commandBody_gated (hw : i.wellFormed = true) :
    Gated s p i.admittedIn (s.roleFits p i) (roleStatus i) i.blockOk (commandBody p f s) := by
  cases hm : i.isManagerRow with
  | true => exact commandBody_gated_manager h s hm
  | false =>
  cases hc : i.isConsumerRow with
  | true => exact commandBody_gated_consumer h s hc
  | false =>
  cases hp : i.isProducerRow with
  | true => exact commandBody_gated_producer h s hp
  | false =>
  cases hx : i.isCancelRow with
  | true => exact commandBody_gated_cancel h s hx
  | false =>
    cases i
    case join p q ps => cases h; exact joinBody_gated s p q ps
    case leaveDrain p q ps =>
      cases h
      rw [commandBody_leave]
      simp only [Instr.wellFormed, Bool.and_eq_true, decide_eq_true_iff] at hw
      exact leaveBody_gated_drain s p q ps hw.2
    case leaveNow p q ps =>
      cases h
      rw [commandBody_leave]
      simp only [Instr.wellFormed, Bool.and_eq_true, decide_eq_true_iff] at hw
      exact leaveBody_gated_now s p q ps hw.2
    case portStatus p q ps => cases h; exact portStatusBody_gated s p q ps
    case claimManager p q ps => cases h; exact claimManagerBody_gated s p q ps
    case releaseManager p q ps => cases h; exact releaseManagerBody_gated s p q ps
    case flagRead p q ps => cases h; exact flagReadBody_gated s p q ps
    case flagCombine p q ps => cases h; exact flagCombineBody_gated s p q ps
    case watchSet p q ps => cases h; exact watchSetBody_gated s p q ps
    case watchClear p q ps => cases h; exact watchClearBody_gated s p q ps
    case fetch p q ps => cases h; exact fetchBody_gated s p q ps
    case query p q ps => cases h; exact queryBody_gated s p q ps
    case find p q ps => cases h; exact findBody_gated s p q ps
    case readCounts p q ps => cases h; exact readCountsBody_gated s p q ps
    case setService | accept | decline | renew | returnJob | complete => cases hc
    case submit | reap | chainReset => cases hp
    case cancel | cancelMatch => cases hx
    case hold | resume | pauseClass | unpauseClass | setClassPolicy | setTickDivisor | setQuota | setOrphanPolicy
        | evict | purge | clearAll =>
      cases hm
    all_goals cases h

end

/-- Settles O14: the checks of the command's row, on the state in which the command is taken. -/
theorem portStateAndRoleChecks : Obligations.PortStateAndRoleChecks := by
  unfold Obligations.PortStateAndRoleChecks
  intro s i p f hf hw ht
  rw [exec_of_takes hf ht]
  have hgate := commandBody_gated hf (s.received p f.seq f.params) hw
  rw [State.received_roleFits] at hgate
  have refused {st : Status}
      (h : commandBody p f (s.received p f.seq f.params) = refuse st (s.received p f.seq f.params)) :
      Host.Outcome.next (finishTaken p (commandBody p f (s.received p f.seq f.params)))
        = (.next ((s.received p f.seq f.params).answer p ⟨st, []⟩) : Next) := by rw [h, finishTaken_refuse]
  have hstate := hgate.state
  have hrole := hgate.role
  have hblock := hgate.block
  rw [State.received_admits] at hstate hrole hblock
  refine ⟨fun hno => refused (hstate ?_), fun hdep hin => ?_⟩
  · obtain hno | hno := hno
    · simp [State.admits, hno]
    · simp [State.admits, hno]
  · have ha : s.admits p i.admittedIn = true := by simp [State.admits, hdep, hin]
    have hman (hm : s.manager ≠ some p) : s.isManager p = false :=
      Bool.eq_false_iff.mpr fun h => hm ((s.isManager_iff p).mp h)
    refine ⟨fun hr hm => refused ?_, fun hr hc => refused ?_, fun hr hp => refused ?_, fun hr hp hm => refused ?_,
      fun hr hb => refused (hblock ha hr hb)⟩
    · rw [hrole ha (by rw [s.roleFits_of_manager p hr, hman hm]), roleStatus_of_manager hr]
    · rw [hrole ha (by rw [s.roleFits_of_consumer p hr, hc]), roleStatus_of_role (by rw [hr]; rfl)]
    · rw [hrole ha (by rw [s.roleFits_of_producer p hr, hp]), roleStatus_of_role (by rw [hr, Bool.or_true]; rfl)]
    · rw [hrole ha (by rw [s.roleFits_of_cancel p hr, hp, hman hm]; rfl), roleStatus_of_role (by rw [hr, Bool.or_true])]

end Sys2Proof.Machine
end

section
/-! PROOFS. The departure steps of the Dispatcher, the Lease Unit and the Job Store as events (R154 steps 3 to 5): no step
changes the departure that it works for, so that it is handed on with the next step and the counts so far. -/

namespace Sys2Proof.Machine

/-- A departure in progress is handed on with its next step and the counts so far (R154, R156). -/
theorem State.advance_of {s : State} {p : Port} {d : Departure} (h : (s.port p).departure = some d) (st : DepStep)
    (n : DepCounts) :
    s.advance p st n = s.modPort p fun r => { r with departure := some { d with next := st, counts := n } } := by
  refine s.modPort_congr p ?_
  rw [h]
  rfl

section
variable {s : State} {p : Port} {d : Departure} (h0 : s.inReset = false) (h : (s.port p).departure = some d)

section
include h

theorem State.stepWithdraw_eq {w : State × Nat} (hw : s.withdrawOffers p false = w) :
    s.stepWithdraw p d = ((w.1.modPort p fun r => { r with missed := 0, stalled := false }).modPort p fun r =>
      { r with departure := some { d with next := .reclaim, counts := { d.counts with withdrawn := w.2 } } }).close := by
  obtain ⟨-, hd⟩ := (kept_session p (s.port p).state (some d)).withdrawOffers p false ⟨rfl, h⟩
  rw [State.stepWithdraw, hw]
  rw [hw] at hd
  rw [State.advance_of]
  rw [State.modPort_port_self]
  exact hd

theorem State.stepReclaim_eq {r : State × DepCounts}
    (hr : (s.port p).workingSet.foldl (reclaimJob p) (s, d.counts) = r) :
    s.stepReclaim p d = (r.1.modPort p fun x =>
      { x with departure := some { d with next := .orphans, counts := r.2 } }).close := by
  have K := kept_session p (s.port p).state (some d)
  obtain ⟨-, hd⟩ := foldl_keeps
    (P := fun a : State × DepCounts => (a.1.port p).state = (s.port p).state ∧ (a.1.port p).departure = some d)
    (fun _ i ha => K.reclaimJob p i ha) (s.port p).workingSet (a := (s, d.counts)) ⟨rfl, h⟩
  rw [hr] at hd
  rw [State.stepReclaim, hr, State.advance_of hd]

theorem State.stepOrphans_eq {r : State × DepCounts} (hr : s.orphanHandling p d.orphan d.counts = r) :
    s.stepOrphans p d = (r.1.modPort p fun x =>
      { x with departure := some { d with next := .watches, counts := r.2 } }).close := by
  obtain ⟨-, hd⟩ := (kept_session p (s.port p).state (some d)).orphanHandling p d.orphan d.counts ⟨rfl, h⟩
  rw [hr] at hd
  rw [State.stepOrphans, hr, State.advance_of hd]

end

include h0 h

theorem execDepartureOfferWithdrawal_of (hn : d.next = .withdraw) {w : State × Nat}
    (hw : allSlots.foldl (withdrawOffer p false) (s, 0) = w) :
    exec (.departureOfferWithdrawal p) s = .next
      ((w.1.modPort p fun r => { r with missed := 0, stalled := false }).modPort p fun r =>
        { r with departure := some { d with next := .reclaim, counts := { d.counts with withdrawn := w.2 } } }).close := by
  have hwithdraw : s.withdrawOffers p false = w := by rw [State.withdrawOffers, hw]
  have hexec : exec (.departureOfferWithdrawal p) s = .next (s.stepWithdraw p d) := by
    show execDepartureOfferWithdrawal p s = _
    rw [execDepartureOfferWithdrawal, State.departureAt_of h0 h hn]
  rw [hexec, State.stepWithdraw_eq h hwithdraw]

theorem execDepartureReclaim_of (hn : d.next = .reclaim) {r : State × DepCounts}
    (hr : (s.port p).workingSet.foldl (reclaimJob p) (s, d.counts) = r) :
    exec (.departureReclaim p) s = .next (r.1.modPort p fun x =>
      { x with departure := some { d with next := .orphans, counts := r.2 } }).close := by
  have hexec : exec (.departureReclaim p) s = .next (s.stepReclaim p d) := by
    show execDepartureReclaim p s = _
    rw [execDepartureReclaim, State.departureAt_of h0 h hn]
  rw [hexec, State.stepReclaim_eq h hr]

theorem execOrphanHandling_of (hn : d.next = .orphans) {r : State × DepCounts}
    (hr : allChains.foldl (orphanChain p d.orphan) (allSlots.foldl (orphanSlot p d.orphan) (s, d.counts)) = r) :
    exec (.orphanHandling p) s = .next ((allSlots.foldl (clearQuarantined p) r.1).modPort p fun x =>
      { x with departure := some { d with next := .watches, counts := r.2 } }).close := by
  have hall : s.orphanHandling p d.orphan d.counts = (allSlots.foldl (clearQuarantined p) r.1, r.2) := by
    rw [State.orphanHandling, hr]
  have hexec : exec (.orphanHandling p) s = .next (s.stepOrphans p d) := by
    show execOrphanHandling p s = _
    rw [execOrphanHandling, State.departureAt_of h0 h hn]
  rw [hexec, State.stepOrphans_eq h hall]

end

/-! ### The reclaim of one job (R90) -/

section
variable {s : State} {p : Port} {i : SlotId} (n : DepCounts) (hst : (s.slot i).state = .active)
  (hc : (s.job i).consumer = some p)
include hst hc

theorem reclaimJob_failing (hok : (s.slot i).checkOk = false) : reclaimJob p (s, n) i = (s.quarantine i, n) := by
  simp [reclaimJob, hst, hc, State.testFails, SlotState.tested, SlotState.live, hok]

theorem reclaimJob_sound (hok : (s.slot i).checkOk = true) :
    reclaimJob p (s, n) i =
      ((s.takeLease i p).dispose i (s.disposition i), n.countDisposition (s.disposition i)) := by
  simp [reclaimJob, hst, hc, State.testFails_of_checkOk hok]

end

/-- What a requeue writes and where the job enters, after a write of its record that keeps the class. -/
theorem State.requeue_writeJob {s : State} {i : SlotId} {f : Job → Job} (hf : (f (s.job i)).cls = (s.job i).cls) :
    (s.writeJob i f).requeue i =
      let r := (s.writeJob i f).writeSlot i fun sl =>
        { sl with
          state := .queued, promoDue := 0
          job := { sl.job with consumer := none, deadline := none, queuedSince := some s.timeBase } }
      r.modQueue (s.job i).cls (insertKey (r.ahead i) i) := by
  have hcls : ((s.writeJob i f).job i).cls = (s.job i).cls := by
    rw [State.writeJob_job_self]
    exact hf
  rw [State.requeue, State.enterQueue_writeSlot rfl, hcls]
  rfl

end Sys2Proof.Machine
end

section
/-! PROOFS. Orphan handling of one job (R106 to R108): what a release, an orphaning and a discard leave of the record and of
its ports. -/

namespace Sys2Proof.Machine

/-! ### The release without the producer's mark (R107) -/

/-- The slot of a job that its departing producer's release has left (R11, R107). -/
def Slot.releasedFrom (sl : Slot) (p : Port) : Slot :=
  { sl with
    state := .retiring, checkOk := true, promoDue := 0, job := Job.cleared
    producerMark := if sl.owesProducer p then none else sl.producerMark }

theorem State.dropProducerMark_modSlot (s : State) (i : SlotId) (p : Port) :
    ((s.dropProducerMark i p).modSlot i fun sl =>
        { sl with state := .retiring, checkOk := true, promoDue := 0, job := Job.cleared }) =
      s.modSlot i fun sl => sl.releasedFrom p := by
  unfold State.dropProducerMark
  split
  next h =>
    rw [State.setProducerMark, State.writeSlot, State.modSlot_modSlot]
    exact s.modSlot_congr i (by simp only [Slot.releasedFrom, if_pos h])
  next h => exact s.modSlot_congr i (by simp only [Slot.releasedFrom, if_neg h])

theorem State.dropProducerMark_slot (s : State) (i : SlotId) (p : Port) :
    ((s.dropProducerMark i p).slot i).state = (s.slot i).state ∧ (s.dropProducerMark i p).job i = s.job i := by
  unfold State.dropProducerMark
  split
  · rw [State.job, State.setProducerMark, State.writeSlot_slot_self]
    exact ⟨rfl, rfl⟩
  · exact ⟨rfl, rfl⟩

theorem State.dropProducerMark_rest (s : State) (i : SlotId) (p : Port) :
    s.dropProducerMark i p = { s with slots := (s.dropProducerMark i p).slots } := by
  unfold State.dropProducerMark
  split <;> rfl

/-- The producer's count ends, and its job's slot is released without the mark owed to it (R10, R11, R107). -/
theorem State.release_dropProducerMark {s : State} {i : SlotId} {p : Port}
    (hst : (s.slot i).state ≠ .quarantined) (hp : (s.job i).producer = some p) :
    (s.dropProducerMark i p).release i =
      (s.modPort p fun r => { r with quotaCount := r.quotaCount - 1 }).modSlot i fun sl => sl.releasedFrom p := by
  obtain ⟨hstate, hjob⟩ := s.dropProducerMark_slot i p
  have hcount : (s.dropProducerMark i p).endCount i =
      (s.dropProducerMark i p).modPort p fun r => { r with quotaCount := r.quotaCount - 1 } := by
    simp only [State.endCount, hjob, hp]
  have hport : (s.dropProducerMark i p).port p = s.port p := by rw [State.dropProducerMark_rest]; rfl
  rw [State.release, if_neg (by rw [hstate]; exact hst), hcount]
  calc _ = ((s.dropProducerMark i p).modSlot i fun sl =>
          { sl with state := .retiring, checkOk := true, promoDue := 0, job := Job.cleared }).modPort p
            fun r => { r with quotaCount := r.quotaCount - 1 } := rfl
    _ = _ := by rw [State.dropProducerMark_modSlot]; rfl

/-! ### The notice of a discard (R107) -/

/-- The job has left its collection, and its consumer, if it has one, has been told that it is dropped (R107). -/
def State.dropTold (s : State) (i : SlotId) : State :=
  match (s.slot i).state with
  | .offered => (s.leaveCollection i).tellConsumer i (s.job i).consumer (.offerWithdrawn .dropped)
  | .active => (s.leaveCollection i).tellConsumer i (s.job i).consumer (.leaseLost .dropped)
  | _ => s.leaveCollection i

theorem State.discard_eq (s : State) (i : SlotId) (p : Port) :
    s.discard i p = (((s.dropTold i).leaveChain i).dropProducerMark i p).release i := rfl

theorem State.dropTold_of_queued {s : State} {i : SlotId} (h : (s.slot i).state = .queued) :
    s.dropTold i = s.leaveCollection i := by
  rw [State.dropTold, h]

/-- The consumer of an offer or a lease is told its own way (R107). -/
theorem State.dropTold_of_consumer {s : State} {i : SlotId} {x : Port} {e : ConsumerNotice}
    (hc : (s.job i).consumer = some x)
    (he : (s.slot i).state = .offered ∧ e = .offerWithdrawn .dropped
      ∨ (s.slot i).state = .active ∧ e = .leaseLost .dropped) :
    s.dropTold i = (s.leaveCollection i).notifyConsumer i x e := by
  obtain ⟨hst, rfl⟩ | ⟨hst, rfl⟩ := he <;> rw [State.dropTold, hst, hc] <;> rfl

/-- A discard's notice is one to the consumer or none. -/
theorem State.dropTold_elim {P : State → Prop} {s : State} {i : SlotId} (h1 : P (s.leaveCollection i))
    (h2 : ∀ x e, P ((s.leaveCollection i).notifyConsumer i x e)) : P (s.dropTold i) := by
  unfold State.dropTold State.tellConsumer
  repeat' split
  exacts [h2 _ _, h1, h2 _ _, h1, h1]

theorem State.notifyConsumer_producerMark (s : State) (i j : SlotId) (x : Port) (e : ConsumerNotice) :
    ((s.notifyConsumer i x e).slot j).producerMark = (s.slot j).producerMark := by
  refine State.notify_elim (P := fun t => (t.slot j).producerMark = (s.slot j).producerMark) rfl rfl ?_
  rw [State.setConsumerMark, State.writeSlot_slot]
  split
  next e => subst e; rfl
  next => rfl

/-- The told job's record keeps its state, generation, producer, chain and producer mark. -/
theorem State.dropTold_slot_fields (s : State) (i : SlotId) :
    ((s.dropTold i).slot i).state = (s.slot i).state ∧ ((s.dropTold i).slot i).gen = (s.slot i).gen
      ∧ ((s.dropTold i).slot i).producerMark = (s.slot i).producerMark
      ∧ ((s.dropTold i).job i).producer = (s.job i).producer ∧ ((s.dropTold i).job i).chain = (s.job i).chain := by
  obtain ⟨hgen, hstate, hmark, -, -⟩ := s.leaveCollection_slot_fields i
  obtain ⟨hchain, hprod⟩ := s.leaveCollection_job i
  refine State.dropTold_elim (P := fun t => (t.slot i).state = (s.slot i).state ∧ (t.slot i).gen = (s.slot i).gen
    ∧ (t.slot i).producerMark = (s.slot i).producerMark ∧ (t.job i).producer = (s.job i).producer
    ∧ (t.job i).chain = (s.job i).chain) ⟨hstate, hgen, hmark, hprod, hchain⟩ fun x e => ?_
  obtain ⟨hjob, hstate', hgen'⟩ := (s.leaveCollection i).notifyConsumer_job i i x e
  rw [hjob, hstate', hgen', State.notifyConsumer_producerMark]
  exact ⟨hstate, hgen, hmark, hprod, hchain⟩

theorem State.dropTold_slot_of_ne (s : State) {i j : SlotId} (hj : j ≠ i) : (s.dropTold i).slot j = s.slot j := by
  have hleave := s.leaveCollection_slot_of_ne i j hj
  exact State.dropTold_elim (P := fun t => t.slot j = s.slot j) hleave fun x e =>
    (State.notifyConsumer_slot_of_ne _ i j x e hj).trans hleave

/-- Of the port records the leaving takes the job from its holder's working set, and the notice adds to queues. -/
theorem State.dropTold_port (s : State) (i : SlotId) (x : Port) :
    (s.dropTold i).port x = { s.port x with
      workingSet := if (s.slot i).state = .active ∧ (s.job i).consumer = some x then
        (s.port x).workingSet.erase i else (s.port x).workingSet
      queue := ((s.dropTold i).port x).queue } := by
  have hleave := s.leaveCollection_port i x
  refine State.dropTold_elim (P := fun t => t.port x = { s.port x with
      workingSet := if (s.slot i).state = .active ∧ (s.job i).consumer = some x then
        (s.port x).workingSet.erase i else (s.port x).workingSet
      queue := (t.port x).queue }) ?_ fun y e => ?_
  · rw [hleave]
  · rw [((s.leaveCollection i).notifyConsumer_port i y e x).1, hleave]

theorem State.dropTold_rest (s : State) (i : SlotId) :
    s.dropTold i = { s with
      ports := (s.dropTold i).ports, slots := (s.dropTold i).slots, classQueues := (s.leaveCollection i).classQueues } := by
  have hleave := s.leaveCollection_rest i
  refine State.dropTold_elim (P := fun t => t = { s with
    ports := t.ports, slots := t.slots, classQueues := (s.leaveCollection i).classQueues }) hleave fun x e => ?_
  refine ((s.leaveCollection i).notifyConsumer_rest i x e).trans ?_
  generalize (s.leaveCollection i).notifyConsumer i x e = v
  generalize s.leaveCollection i = u at hleave ⊢
  rw [hleave]

theorem State.owed_leaveCollection (s : State) (i : SlotId) (x : Port) : (s.leaveCollection i).owed x = s.owed x := by
  unfold State.leaveCollection
  split
  · exact s.owed_leaveQueue i x
  · exact s.owed_leaveConsumer i x
  · exact s.owed_leaveConsumer i x
  · rfl

theorem State.room_leaveCollection (s : State) (i : SlotId) (x : Port) : (s.leaveCollection i).room x = s.room x := by
  have hq : ((s.leaveCollection i).port x).queue = (s.port x).queue := by rw [State.leaveCollection_port]
  rw [Bool.eq_iff_iff, State.room_iff, State.room_iff, hq, State.owed_leaveCollection]

section
variable {s : State} {i : SlotId} {x : Port} {e : ConsumerNotice} (hc : (s.job i).consumer = some x)
  (he : (s.slot i).state = .offered ∧ e = .offerWithdrawn .dropped
    ∨ (s.slot i).state = .active ∧ e = .leaseLost .dropped) (hd : (s.port x).state ≠ .down)
include hc he hd

theorem State.dropTold_room (hr : s.room x = true) :
    ((s.dropTold i).port x).queue = (s.port x).queue ++ [e.event (s.handle i)] := by
  obtain ⟨hgen, -, -, -, -⟩ := s.leaveCollection_slot_fields i
  have hport := s.leaveCollection_port i x
  have hhandle : (s.leaveCollection i).handle i = s.handle i := congrArg (Handle.mk i) hgen
  rw [State.dropTold_of_consumer hc he, State.notifyConsumer,
    State.notify_room _ _ (by rw [hport]; exact hd) ((s.room_leaveCollection i x).trans hr), State.enqueue_port,
    if_pos rfl, hport, hhandle]

theorem State.dropTold_full (hr : s.room x = false) :
    ((s.dropTold i).port x).queue = (s.port x).queue ∧ ((s.dropTold i).slot i).consumerMarks[x] = some e := by
  have hport := s.leaveCollection_port i x
  have hroom : ¬ (s.leaveCollection i).room x = true := by
    rw [State.room_leaveCollection, hr]
    exact Bool.false_ne_true
  rw [State.dropTold_of_consumer hc he, State.notifyConsumer,
    State.notify_full _ _ (by rw [hport]; exact hd) hroom, State.setConsumerMark, State.writeSlot_port, hport,
    State.writeSlot_slot_self]
  exact ⟨rfl, Vector.getElem_set_self ..⟩

end

/-! ### The discarded job (R107) -/

section
variable {s : State} {i : SlotId} {p : Port} (hp : (s.job i).producer = some p) (hlive : (s.slot i).state.live = true)
include hp hlive

/-- A discard is the told leaving, the end of the producer's count and the release of the slot. -/
theorem State.discard_released :
    s.discard i p = (((s.dropTold i).leaveChain i).modPort p fun r =>
      { r with quotaCount := r.quotaCount - 1 }).modSlot i fun sl => sl.releasedFrom p := by
  obtain ⟨hstate, -, -, hprod, -⟩ := s.dropTold_slot_fields i
  have hslot := (s.dropTold i).leaveChain_slot i i
  rw [State.discard_eq, State.release_dropProducerMark]
  · rw [hslot, hstate]
    intro hq
    rw [hq] at hlive
    exact Bool.false_ne_true hlive
  · rw [State.job, hslot]
    exact hprod.trans hp

theorem State.discard_slot_self : (s.discard i p).slot i = ((s.dropTold i).slot i).releasedFrom p := by
  rw [State.discard_released hp hlive, State.modSlot_slot_self, State.modPort_slot, State.leaveChain_slot]

theorem State.discard_slot_of_ne {j : SlotId} (hj : j ≠ i) : (s.discard i p).slot j = s.slot j := by
  rw [State.discard_released hp hlive, State.modSlot_slot_of_ne _ i j _ hj, State.modPort_slot, State.leaveChain_slot,
    State.dropTold_slot_of_ne s hj]

theorem State.discard_port (x : Port) :
    (s.discard i p).port x = { (s.dropTold i).port x with
      quotaCount := if x = p then (s.port p).quotaCount - 1 else (s.port x).quotaCount } := by
  have hport (y : Port) : ((s.dropTold i).leaveChain i).port y = (s.dropTold i).port y := by
    rw [State.port, State.leaveChain_rest, State.port]
  have htold := s.dropTold_port i x
  rw [State.discard_released hp hlive, State.modSlot_port, State.modPort_port]
  split
  next hx =>
    subst hx
    rw [hport, htold]
  next hx => rw [hport, htold]

theorem State.discard_classQueue (k : ClassId) : (s.discard i p).classQueue k = (s.leaveCollection i).classQueue k := by
  have h : (s.discard i p).classQueues = (s.leaveCollection i).classQueues := by
    rw [State.discard_released hp hlive, State.modSlot_classQueues, State.modPort_classQueues, State.leaveChain_rest,
      State.dropTold_rest]
  rw [State.classQueue, h, State.classQueue]

theorem State.discard_chain (e : ChainId) : (s.discard i p).chain e =
    if s.inChain i = some e then { s.chain e with list := (s.chain e).list.erase i } else s.chain e := by
  obtain ⟨-, -, -, -, hchain⟩ := s.dropTold_slot_fields i
  have hchains (e : ChainId) : (s.dropTold i).chain e = s.chain e := by
    rw [State.chain, State.dropTold_rest, State.chain]
  rw [State.discard_released hp hlive, State.modSlot_chain, State.modPort_chain, State.leaveChain_chain,
    State.inChain_congr hchain hchains, hchains]

theorem State.discard_rest : (s.discard i p).words = s.words ∧ (s.discard i p).watches = s.watches
    ∧ (s.discard i p).freeList = s.freeList := by
  rw [State.discard_released hp hlive, State.modSlot_words, State.modPort_words, State.modSlot_watches,
    State.modPort_watches, State.modSlot_freeList, State.modPort_freeList, State.leaveChain_rest, State.dropTold_rest]
  exact ⟨rfl, rfl, rfl⟩

end

/-! ### Orphan handling of one slot (R106) -/

section
variable {s : State} {p : Port} {i : SlotId} (o : OrphanPolicy) (n : DepCounts)

theorem orphanSlot_not_produced (h : (s.job i).producer ≠ some p ∨ (s.slot i).state.tested = false) :
    orphanSlot p o (s, n) i = (s, n) := by
  obtain h | h := h <;> simp [orphanSlot, h]

variable (hp : (s.job i).producer = some p)
include hp

theorem orphanSlot_failing (ht : (s.slot i).state.tested = true) (hok : (s.slot i).checkOk = false) :
    orphanSlot p o (s, n) i = (s.quarantine i, n) := by
  simp [orphanSlot, hp, ht, hok, State.testFails]

theorem orphanSlot_done (hst : (s.slot i).state = .done) (hok : (s.slot i).checkOk = true) :
    orphanSlot p o (s, n) i = ((s.dropProducerMark i p).release i, { n with released := n.released + 1 }) := by
  have ht : SlotState.done.tested = true := rfl
  simp [orphanSlot, hp, ht, hst, State.testFails_of_checkOk hok]

variable (hlive : (s.slot i).state.live = true) (hok : (s.slot i).checkOk = true)
include hlive hok

theorem orphanSlot_live : orphanSlot p o (s, n) i = match o with
    | .drop => (s.discard i p, { n with discarded := n.discarded + 1 })
    | .keep => (s.orphanJob i, { n with orphaned := n.orphaned + 1 }) := by
  have ht : (s.slot i).state.tested = true := by rw [SlotState.tested, hlive, Bool.true_or]
  have hnd : (s.slot i).state ≠ .done := by
    intro hd
    rw [hd] at hlive
    exact Bool.false_ne_true hlive
  cases o <;> simp [orphanSlot, hp, ht, hnd, State.testFails_of_checkOk hok]

omit hlive hok in
theorem State.orphanJob_of_producer : s.orphanJob i =
    (s.modPort p fun r => { r with quotaCount := r.quotaCount - 1 }).writeJob i fun j =>
      { j with report := false, producer := none } := by
  simp only [State.orphanJob, State.endCount, hp]

end

/-! ### Orphan handling of one chain entry (R109) -/

section
variable {s : State} {p : Port} {e : ChainId} (o : OrphanPolicy) (n : DepCounts)

theorem orphanChain_not_owned (h : (s.chain e).state = .free ∨ (s.chain e).owner ≠ some p) :
    orphanChain p o (s, n) e = (s, n) := by
  obtain h | h := h <;> simp [orphanChain, h]

variable (hown : (s.chain e).owner = some p)
include hown

theorem orphanChain_owned (hst : (s.chain e).state ≠ .free) :
    (orphanChain p o (s, n) e).2 = { n with chains := n.chains + 1 } := by
  simp [orphanChain, hst, hown]

theorem orphanChain_rekeyed (hst : (s.chain e).state = .isOpen) :
    (orphanChain p .keep (s, n) e).1 = s.modChain e fun c => { c with owner := none } := by
  simp [orphanChain, hst, hown]

theorem orphanChain_freed (hst : (s.chain e).state ≠ .free) (h : (s.chain e).state = .broken ∨ o = .drop) :
    (orphanChain p o (s, n) e).1 = s.modChain e fun _ => ChainEntry.cleared := by
  obtain h | h := h
  · simp [orphanChain, h, hown]
  · subst h
    cases hc : (s.chain e).state with
    | free => exact absurd hc hst
    | isOpen => simp [orphanChain, hc, hown]
    | broken => simp [orphanChain, hc, hown]

end

/-! ### The statement's parts -/

theorem reclaimJob_disposes {s : State} {p : Port} {i : SlotId} (n : DepCounts) (hst : (s.slot i).state = .active)
    (hc : (s.job i).consumer = some p) (hok : (s.slot i).checkOk = true) :
    let t := (s.modPort p fun r => { r with workingSet := r.workingSet.erase i }).writeJob i fun x =>
      { x with consumer := none, deadline := none, reclaimedFrom := some p }
    ((s.job i).cancelRequested = true →
      reclaimJob p (s, n) i = (t.finishJob i .cancelled, { n with cancelled := n.cancelled + 1 }))
    ∧ ((s.job i).cancelRequested = false → (s.job i).attempts = (s.job i).attemptLimit →
      reclaimJob p (s, n) i = (t.finishJob i .expired, { n with expired := n.expired + 1 }))
    ∧ ((s.job i).cancelRequested = false → (s.job i).attempts ≠ (s.job i).attemptLimit →
      let r := t.writeSlot i fun sl =>
        { sl with
          state := .queued, promoDue := 0
          job := { sl.job with consumer := none, deadline := none, queuedSince := some s.timeBase } }
      reclaimJob p (s, n) i =
        (r.modQueue (s.job i).cls (insertKey (r.ahead i) i), { n with requeued := n.requeued + 1 })) := by
  rw [reclaimJob_sound n hst hc hok, State.takeLease_eq hst hc]
  refine ⟨fun hreq => ?_, fun hreq ha => ?_, fun hreq ha => ?_⟩
  · rw [State.disposition_cancelled hreq]
    rfl
  · rw [State.disposition_expired hreq ha]
    rfl
  · rw [State.disposition_requeued hreq ha, State.dispose, State.requeue_writeJob rfl]
    rfl

/-- The third part: what becomes of a job that the departing port produced. -/
theorem orphanSlot_becomes (s : State) (p : Port) (o : OrphanPolicy) (i : SlotId) (n : DepCounts) :
    let sl := s.slot i
    let t := (orphanSlot p o (s, n) i).1
    let c := (orphanSlot p o (s, n) i).2
    (sl.job.producer = some p → sl.state = .done → sl.checkOk = true →
      t = (s.modPort p fun r => { r with quotaCount := r.quotaCount - 1 }).modSlot i (fun _ => sl.releasedFrom p)
      ∧ c = { n with released := n.released + 1 })
    ∧ (sl.job.producer = some p → sl.state.live = true → sl.checkOk = true → o = .keep →
      t = ((s.modPort p fun r => { r with quotaCount := r.quotaCount - 1 }).writeJob i fun j =>
        { j with report := false, producer := none })
      ∧ c = { n with orphaned := n.orphaned + 1 })
    ∧ (sl.job.producer = some p → sl.state.live = true → sl.checkOk = true → o = .drop →
      t = s.discard i p ∧ c = { n with discarded := n.discarded + 1 }) := by
  refine ⟨fun hp hst hok => ?_, fun hp hlive hok ho => ?_, fun hp hlive hok ho => ?_⟩
  · rw [orphanSlot_done o n hp hst hok, State.release_dropProducerMark (by rw [hst]; exact nofun) hp]
    refine ⟨?_, rfl⟩
    dsimp only
    refine State.modSlot_congr _ i ?_
    rw [State.modPort_slot]
  · subst ho
    rw [orphanSlot_live .keep n hp hlive hok]
    exact ⟨State.orphanJob_of_producer hp, rfl⟩
  · subst ho
    rw [orphanSlot_live .drop n hp hlive hok]
    exact ⟨rfl, rfl⟩

/-- What a discard leaves (R107). -/
theorem State.discard_becomes {s : State} {p : Port} {i : SlotId} (hp : (s.job i).producer = some p)
    (hlive : (s.slot i).state.live = true) {t : State} (ht : t = s.discard i p) :
    (t.slot i).state = .retiring ∧ (t.slot i).gen = (s.slot i).gen ∧ (t.slot i).job = Job.cleared
    ∧ (t.slot i).producerMark = ((s.slot i).releasedFrom p).producerMark
    ∧ (∀ k : ClassId, t.classQueue k =
      if (s.slot i).state = .queued ∧ k = (s.job i).cls then (s.classQueue k).erase i else s.classQueue k)
    ∧ (∀ e : ChainId, t.chain e =
      if s.inChain i = some e then { s.chain e with list := (s.chain e).list.erase i } else s.chain e)
    ∧ (∀ x : Port,
      (t.port x).quotaCount = (if x = p then (s.port p).quotaCount - 1 else (s.port x).quotaCount)
      ∧ (t.port x).workingSet = if (s.slot i).state = .active ∧ (s.job i).consumer = some x then
          (s.port x).workingSet.erase i else (s.port x).workingSet)
    ∧ ((s.slot i).state = .queued →
      t.slot i = (s.slot i).releasedFrom p ∧ ∀ x : Port, (t.port x).queue = (s.port x).queue)
    ∧ (∀ (x : Port) (e : ConsumerNotice), (s.job i).consumer = some x →
      (s.slot i).state = .offered ∧ e = .offerWithdrawn .dropped ∨ (s.slot i).state = .active ∧ e = .leaseLost .dropped →
      ((s.port x).state ≠ .down → s.room x = true → (t.port x).queue = (s.port x).queue ++ [e.event (s.handle i)])
      ∧ ((s.port x).state ≠ .down → s.room x = false →
        (t.port x).queue = (s.port x).queue ∧ (t.slot i).consumerMarks[x] = some e))
    ∧ (∀ j : SlotId, j ≠ i → t.slot j = s.slot j)
    ∧ t.words = s.words ∧ t.watches = s.watches ∧ t.freeList = s.freeList := by
  obtain ⟨-, hgen, hmark, -, -⟩ := s.dropTold_slot_fields i
  have hslot := State.discard_slot_self hp hlive
  have hport := State.discard_port hp hlive
  have hqueue (x : Port) : ((s.discard i p).port x).queue = ((s.dropTold i).port x).queue := by rw [hport]
  have hmarks : ((s.discard i p).slot i).consumerMarks = ((s.dropTold i).slot i).consumerMarks := by
    rw [hslot]
    rfl
  subst ht
  refine ⟨?_, ?_, ?_, ?_, fun k => ?_, State.discard_chain hp hlive, fun x => ⟨?_, ?_⟩, fun hq => ⟨?_, fun x => ?_⟩,
    fun x e hc he => ⟨fun hd hr => ?_, fun hd hr => ?_⟩, fun j hj => State.discard_slot_of_ne hp hlive hj,
    State.discard_rest hp hlive⟩
  · rw [hslot]
    rfl
  · rw [hslot]
    exact hgen
  · rw [hslot]
    rfl
  · rw [hslot, Slot.releasedFrom, Slot.releasedFrom, Slot.owesProducer, Slot.owesProducer, hmark]
  · rw [State.discard_classQueue hp hlive, State.leaveCollection_classQueue]
  · rw [hport]
  · rw [hport, State.dropTold_port]
  · rw [hslot, State.dropTold_of_queued hq, State.leaveCollection, hq]
    rfl
  · rw [hqueue, State.dropTold_of_queued hq, State.leaveCollection_port]
  · rw [hqueue, State.dropTold_room hc he hd hr]
  · obtain ⟨hqueue', hmark'⟩ := State.dropTold_full hc he hd hr
    rw [hqueue, hqueue', hmarks, hmark']
    exact ⟨rfl, rfl⟩

/-- Settles O23: the three events, and what each job, entry and slot becomes. -/
theorem departureStepsAtTheJobBlocks : Obligations.DepartureStepsAtTheJobBlocks := by
  unfold Obligations.DepartureStepsAtTheJobBlocks
  refine ⟨fun s p d h0 h => ⟨fun hn => ?_, fun hn => ?_, fun hn => ?_⟩, fun s p i n hst hc => ⟨reclaimJob_failing n hst hc,
    reclaimJob_disposes n hst hc⟩, fun s p o i n => ?_, fun s p o e n => ⟨fun hst hown => ⟨orphanChain_owned o n hown hst,
    fun hopen ho => ?_, orphanChain_freed o n hown hst⟩, orphanChain_not_owned o n⟩, fun s p i => rfl⟩
  · exact execDepartureOfferWithdrawal_of h0 h hn rfl
  · exact execDepartureReclaim_of h0 h hn rfl
  · exact execOrphanHandling_of h0 h hn rfl
  · obtain ⟨hdone, hkeep, hdrop⟩ := orphanSlot_becomes s p o i n
    refine ⟨fun hno => ?_, fun hp ht hok => ?_, hdone, fun hp hlive hok => ⟨hkeep hp hlive hok, fun ho => ?_⟩⟩
    · rw [orphanSlot_not_produced o n hno]
      exact ⟨rfl, rfl⟩
    · rw [orphanSlot_failing o n hp ht hok]
      exact ⟨rfl, rfl⟩
    · obtain ⟨ht, hc⟩ := hdrop hp hlive hok ho
      exact ⟨hc, State.discard_becomes hp hlive ht⟩
  · subst ho
    exact orphanChain_rekeyed n hown hopen

end Sys2Proof.Machine
end

section
/-! PROOFS. What the job blocks leave of the ports and of the manager claim: the reads, quarantines and finishes of a job,
with the notices, combines and chain breaks they bring, touch of a port's record its working set, its quota count and its
event queue alone. -/

namespace Sys2Proof.Machine

/-- A port's record but for what the job blocks change: its working set, its quota count and its event queue. -/
def PortRec.apart (r : PortRec) : PortRec := { r with workingSet := [], quotaCount := 0, queue := [] }

/-- From `s` to `t` the claim stays, and each port's record but for what the job blocks change. -/
def State.WorksTo (s t : State) : Prop :=
  t.manager = s.manager ∧ ∀ x : Port, (t.port x).apart = (s.port x).apart

theorem State.WorksTo.refl (s : State) : s.WorksTo s := ⟨rfl, fun _ => rfl⟩

theorem State.WorksTo.trans {s t u : State} (h : s.WorksTo t) (h' : t.WorksTo u) : s.WorksTo u :=
  ⟨h'.1.trans h.1, fun x => (h'.2 x).trans (h.2 x)⟩

section
variable {s t : State} (h : s.WorksTo t)
include h

theorem State.WorksTo.manager : t.manager = s.manager := h.1

theorem State.WorksTo.cursor (x : Port) : (t.port x).cursor = (s.port x).cursor := by
  show (t.port x).apart.cursor = (s.port x).apart.cursor
  rw [h.2 x]

theorem State.WorksTo.link (x : Port) : (t.port x).link = (s.port x).link := by
  show (t.port x).apart.link = (s.port x).apart.link
  rw [h.2 x]

/-- A change outside the port records and the claim. -/
theorem State.WorksTo.rest {u : State} (hp : u.ports = t.ports) (hm : u.manager = t.manager) : s.WorksTo u :=
  h.trans ⟨hm, fun x => by rw [State.port, hp, State.port]⟩

/-- A change of one port's record that the job blocks may make. -/
theorem State.WorksTo.modPort (p : Port) {f : PortRec → PortRec} (hf : ∀ r, (f r).apart = r.apart) :
    s.WorksTo (t.modPort p f) :=
  h.trans ⟨rfl, fun x => by
    rw [State.modPort_port]
    split
    next e => subst e; exact hf _
    next => rfl⟩

theorem State.WorksTo.enqueue (p : Port) (e : Event) : s.WorksTo (t.enqueue p e) := h.modPort p fun _ => rfl

/-! ### Notices -/

theorem State.WorksTo.notifyProducer (i : SlotId) (p : Port) (n : ProducerNotice) :
    s.WorksTo (t.notifyProducer i p n) := State.notify_elim h (h.enqueue _ _) (h.rest rfl rfl)

theorem State.WorksTo.notifyConsumer (i : SlotId) (p : Port) (n : ConsumerNotice) :
    s.WorksTo (t.notifyConsumer i p n) := State.notify_elim h (h.enqueue _ _) (h.rest rfl rfl)

theorem State.WorksTo.tellProducer (i : SlotId) (n : ProducerNotice) : s.WorksTo (t.tellProducer i n) := by
  unfold State.tellProducer
  split
  · exact h.notifyProducer _ _ _
  · exact h

theorem State.WorksTo.tellConsumer (i : SlotId) (p : Option Port) (n : ConsumerNotice) :
    s.WorksTo (t.tellConsumer i p n) := by
  unfold State.tellConsumer
  split
  · exact h.notifyConsumer _ _ _
  · exact h

theorem State.WorksTo.passLost (i : SlotId) (o : Option Port) : s.WorksTo (t.passLost i o) :=
  (h.tellProducer _ _).tellConsumer _ _ _

theorem State.WorksTo.passChainBroken (e : ChainId) (x : Handle) (n : Nat) : s.WorksTo (t.passChainBroken e x n) :=
  State.passChainBroken_elim h h.enqueue fun _ => h.rest rfl rfl

/-! ### Collections -/

theorem State.WorksTo.leaveConsumer (i : SlotId) : s.WorksTo (t.leaveConsumer i) :=
  h.trans ⟨by rw [State.leaveConsumer_rest], fun x => by rw [State.leaveConsumer_port]; rfl⟩

theorem State.WorksTo.leaveCollection (i : SlotId) : s.WorksTo (t.leaveCollection i) :=
  h.trans ⟨by rw [State.leaveCollection_rest], fun x => by rw [State.leaveCollection_port]; rfl⟩

theorem State.WorksTo.leaveLive (i : SlotId) : s.WorksTo (t.leaveLive i) :=
  (h.leaveCollection i).rest (by rw [State.leaveLive, State.leaveChain_rest]; rfl)
    (by rw [State.leaveLive, State.leaveChain_rest]; rfl)

theorem State.WorksTo.endCount (i : SlotId) : s.WorksTo (t.endCount i) :=
  h.trans ⟨by rw [State.endCount_rest], fun x => by rw [State.endCount_port]; rfl⟩

theorem State.WorksTo.release (i : SlotId) : s.WorksTo (t.release i) := by
  unfold State.release
  refine State.WorksTo.rest ?_ rfl rfl
  split
  · exact h
  · exact h.endCount i

/-! ### The end of a job -/

theorem State.WorksTo.evalWatch (k : WatchId) (v : Word) : s.WorksTo (t.evalWatch k v) :=
  State.evalWatch_elim h (fun _ => h.rest rfl rfl) fun p e _ => (h.enqueue p e).rest rfl rfl

theorem State.WorksTo.applyAction (i : SlotId) (st : FinishStatus) : s.WorksTo (t.applyAction i st) := by
  unfold State.applyAction
  split
  · split
    · exact foldl_keeps (fun _ k ht => by split; exacts [ht.evalWatch _ _, ht]) _ (h.rest rfl rfl)
    · exact h
  · exact h

theorem State.WorksTo.record (i : SlotId) (st : FinishStatus) : s.WorksTo (t.record i st) := by
  unfold State.record
  split
  · refine State.WorksTo.tellProducer ?_ i _
    exact h.rest rfl rfl
  · exact h.release i

theorem State.WorksTo.finishTail (i : SlotId) (st : FinishStatus) : s.WorksTo (t.finishTail i st) :=
  (h.applyAction i st).record i st

theorem State.WorksTo.enterQuarantine (i : SlotId) : s.WorksTo (t.enterQuarantine i) :=
  h.trans ⟨by rw [State.enterQuarantine_rest], fun x => by rw [State.enterQuarantine_port]; rfl⟩

/-! ### Chain breaks (R37) -/

theorem State.WorksTo.endHold (i : SlotId) : s.WorksTo (t.endHold i) :=
  State.endHold_elim h (h.leaveConsumer i) fun _ _ _ ht => ht.notifyConsumer _ _ _

omit h in
theorem State.WorksTo.breakJob {a : State × Nat} (h : s.WorksTo a.1) (j : SlotId) : s.WorksTo (breakJob a j).1 := by
  unfold Machine.breakJob
  split
  · exact (h.enterQuarantine j).passLost _ _
  · exact ((h.endHold j).leaveLive j).finishTail _ _

theorem State.WorksTo.breakChain (e : ChainId) (x : Handle) : s.WorksTo (t.breakChain e x) := by
  have hl : s.WorksTo ((t.chain e).list.foldl Machine.breakJob (t, 0)).1 :=
    foldl_keeps (P := fun a : State × Nat => s.WorksTo a.1) (fun _ j ha => ha.breakJob j) _ h
  refine State.WorksTo.passChainBroken ?_ _ _ _
  exact hl.rest rfl rfl

theorem State.WorksTo.breakIfStrict (o : Option ChainId) (x : Handle) : s.WorksTo (t.breakIfStrict o x) := by
  unfold State.breakIfStrict
  split
  · split
    · exact h.breakChain _ _
    · exact h
  · exact h

/-! ### Reads, finishes and cancels -/

theorem State.WorksTo.quarantine (i : SlotId) : s.WorksTo (t.quarantine i) :=
  ((h.enterQuarantine i).breakIfStrict _ _).passLost _ _

theorem State.WorksTo.readRecord (i : SlotId) : s.WorksTo (t.readRecord i) := by
  unfold State.readRecord
  split
  · exact h.quarantine i
  · exact h

theorem State.WorksTo.finishJob (i : SlotId) (st : FinishStatus) : s.WorksTo (t.finishJob i st) := by
  unfold State.finishJob
  apply State.WorksTo.finishTail
  split
  · exact (h.leaveLive i).breakIfStrict _ _
  · exact h.leaveLive i

theorem State.WorksTo.cancelOffered (i : SlotId) : s.WorksTo (t.cancelOffered i) :=
  ((h.leaveConsumer i).tellConsumer _ _ _).finishJob _ _

theorem State.WorksTo.cancelAtVisit (i : SlotId) : s.WorksTo (t.cancelAtVisit i) := by
  unfold State.cancelAtVisit
  split
  · exact h.cancelOffered i
  · exact h.finishJob _ _

end

end Sys2Proof.Machine
end

section
/-! PROOFS. QUERY (R164 to R166): which jobs a port sees, the bytes by the state of the slot, and the statement. -/

namespace Sys2Proof.Machine

/-! ### Visibility (R164) -/

/-- The ports that see the job in slot `i`: the manager, the producer, the holder, and the lost holder (R164). -/
def State.sees (s : State) (i : SlotId) (p : Port) : Prop :=
  s.manager = some p ∨ (s.job i).producer = some p
    ∨ ((s.slot i).state = .offered ∨ (s.slot i).state = .active) ∧ (s.job i).consumer = some p
    ∨ (s.slot i).state = .quarantined ∧ (s.job i).lostHolder = some p

theorem State.visible_iff (s : State) (i : SlotId) (p : Port) : s.visible i p = true ↔
    ((s.slot i).state.tested = true ∨ (s.slot i).state = .quarantined) ∧ s.sees i p := by
  simp only [State.visible, State.sees, State.isManager, Bool.and_eq_true, Bool.or_eq_true, beq_iff_eq, or_assoc]

/-- Of a quarantined slot a port sees what the manager, the producer and the lost holder see (R164). -/
theorem State.sees_quarantined {s : State} {i : SlotId} (h : (s.slot i).state = .quarantined) (p : Port) :
    s.sees i p ↔ s.manager = some p ∨ (s.job i).producer = some p ∨ (s.job i).lostHolder = some p := by
  simp [State.sees, h]

@[simp] theorem State.received_visible (s : State) (p x : Port) (q : Seq) (ps : List Byte) (i : SlotId) :
    (s.received p q ps).visible i x = s.visible i x := rfl

/-! ### The bytes (R166) -/

/-- The values that every answer carries after the state: class and tag (R166). -/
def Job.commonData (j : Job) : List Byte := num1 j.cls.val ++ num2 j.tag.toNat

/-- The values that the answers about a job carry next, whatever its state (R166). -/
def Job.fullData (j : Job) : List Byte :=
  portByte j.producer ++ yesNo j.report ++ num1 j.baseUrgency ++ num1 j.urgency
    ++ optByte (j.chain.map Prod.fst) ++ num1 j.attempts ++ num1 j.attemptLimit

section
variable {s : State} {i : SlotId}

theorem State.queryData_quarantined (h : (s.slot i).state = .quarantined) :
    s.queryData i = [6] ++ (s.job i).commonData := by
  simp [State.queryData, Job.commonData, SlotState.code, h]

theorem State.queryData_queued (h : (s.slot i).state = .queued) :
    s.queryData i = [1] ++ (s.job i).commonData ++ (s.job i).fullData := by
  simp [State.queryData, Job.commonData, Job.fullData, SlotState.code, h]

theorem State.queryData_offered (h : (s.slot i).state = .offered) {d : Word} (hd : (s.job i).deadline = some d) :
    s.queryData i = [2] ++ (s.job i).commonData ++ (s.job i).fullData
      ++ (portByte (s.job i).consumer ++ num2 (s.ticksTo d)) := by
  simp [State.queryData, Job.commonData, Job.fullData, SlotState.code, h, hd]

theorem State.queryData_active (h : (s.slot i).state = .active) {d : Word} (hd : (s.job i).deadline = some d) :
    s.queryData i = [3] ++ (s.job i).commonData ++ (s.job i).fullData
      ++ (portByte (s.job i).consumer ++ num2 (s.ticksTo d)) ++ yesNo (s.job i).cancelRequested := by
  simp [State.queryData, Job.commonData, Job.fullData, SlotState.code, h, hd]

theorem State.queryData_done (h : (s.slot i).state = .done) {f : FinishStatus} (hf : (s.job i).finish = some f) :
    s.queryData i = [4] ++ (s.job i).commonData ++ (s.job i).fullData ++ [f.code] ++ optByte (s.job i).userCode := by
  simp [State.queryData, Job.commonData, Job.fullData, SlotState.code, h, hf]

end

/-! ### What QUERY answers (R165) -/

theorem answerQuery_visible {p : Port} {i : SlotId} {s : State} (h : s.visible i p = true) :
    answerQuery p i s = accepted (s.queryData i) s := if_pos h

theorem answerQuery_hidden {p : Port} {i : SlotId} {s : State} (h : ¬ s.visible i p = true) :
    answerQuery p i s = refuse .notOwner s := if_neg h

section
variable {s : State} {p : Port} {ps : List Byte} {h : Handle} (ha : s.admits p inSession = true)
  (hp : parseHandle ps = some h) (hok : s.handleOk h = true)
include ha hp hok

theorem queryBody_sound (ht : s.testFails h.slot = false) : queryBody p ps s = answerQuery p h.slot s := by
  simp [queryBody, ha, hp, hok, ht]

theorem queryBody_failing (ht : s.testFails h.slot = true) :
    queryBody p ps s = closing (answerQuery p h.slot (s.quarantine h.slot)) := by
  simp [queryBody, ha, hp, hok, ht]

end

/-- Settles O53: the slot is judged as the read of its record leaves it, and the received state shows the same job. -/
theorem queryReportsAVisibleJob : Obligations.QueryReportsAVisibleJob := by
  unfold Obligations.QueryReportsAVisibleJob
  intro s p q h htakes hadmits hok
  dsimp only
  have hexec : exec (.query p q (handleBytes h)) s =
      .next (finishTaken p (queryBody p (handleBytes h) (s.received p q (handleBytes h)))) :=
    congrArg _ (hostFrame_takes _ htakes)
  have hp := parseHandle_handleBytes h
  have hmgr := s.received_manager p q (handleBytes h)
  have hvis := s.received_visible p p q (handleBytes h) h.slot
  have hdata : (s.received p q (handleBytes h)).queryData h.slot = s.queryData h.slot := rfl
  rw [← State.received_admits s p p q (handleBytes h)] at hadmits
  rw [← State.received_handleOk s p q (handleBytes h)] at hok
  rw [← State.received_testFails s p q (handleBytes h), hexec]
  generalize s.received p q (handleBytes h) = u at *
  refine ⟨fun ht hsees => ?_, fun ht hno => ?_, fun ht hq => ?_⟩
  · have answered (hst : (s.slot h.slot).state.tested = true ∨ (s.slot h.slot).state = .quarantined) :
        finishTaken p (queryBody p (handleBytes h) u) = u.answer p ⟨.ok, s.queryData h.slot⟩ := by
      rw [queryBody_sound hadmits hp hok ht, answerQuery_visible (hvis.trans ((s.visible_iff _ p).mpr ⟨hst, hsees⟩)),
        finishTaken_accepted, hdata]
    refine ⟨fun hst => ?_, fun hst => ?_, fun d hd => ⟨fun hst => ?_, fun hst => ?_⟩, fun f hst hf => ?_⟩
    · rw [answered (.inr hst), State.queryData_quarantined hst, Job.commonData]
    · rw [answered (.inl (by rw [hst]; rfl)), State.queryData_queued hst, Job.commonData, Job.fullData]
    · rw [answered (.inl (by rw [hst]; rfl)), State.queryData_offered hst hd, Job.commonData, Job.fullData]
    · rw [answered (.inl (by rw [hst]; rfl)), State.queryData_active hst hd, Job.commonData, Job.fullData]
    · rw [answered (.inl (by rw [hst]; rfl)), State.queryData_done hst hf, Job.commonData, Job.fullData]
  · have hhidden : ¬ u.visible h.slot p = true := fun hv => hno ((s.visible_iff _ p).mp (hvis.symm.trans hv)).2
    rw [queryBody_sound hadmits hp hok ht, answerQuery_hidden hhidden, finishTaken_refuse]
  · have hvis' : (u.quarantine h.slot).visible h.slot p = true ↔ s.manager = some p
        ∨ ((u.quarantine h.slot).job h.slot).producer = some p
        ∨ ((u.quarantine h.slot).job h.slot).lostHolder = some p := by
      rw [State.visible_iff, State.sees_quarantined hq, ((State.WorksTo.refl u).quarantine _).manager, hmgr]
      exact and_iff_right (.inr hq)
    rw [queryBody_failing hadmits hp hok ht]
    refine ⟨fun hkeeps => ?_, fun hkeeps => ?_⟩
    · rw [answerQuery_visible (hvis'.mpr hkeeps), closing_accepted, finishTaken_accepted,
        State.queryData_quarantined hq, Job.commonData, List.append_assoc]
    · rw [answerQuery_hidden (mt hvis'.mp hkeeps), closing_refuse, finishTaken_refuse]

end Sys2Proof.Machine
end

section
/-! PROOFS. FIND and CANCEL_MATCH as they are taken (R163, R167, R168, R170): the scan that each begins, and the statement. -/

namespace Sys2Proof.Machine

section
variable {s : State} {p : Port} {ps : List Byte} (ha : s.admits p inSession = true)
include ha

/-- A FIND that has a slot to visit begins a scan there, and stays in flight (R167, R168). -/
theorem findBody_begins {a : FindParams} {i : SlotId} (hp : parseFind ps = some a)
    (hi : (if a.continues then (s.port p).cursor else 0) = i.val) :
    findBody p ps s = (s.modPort p fun r =>
      { r with cursor := i.val, scan := some ⟨.find a.states [], a.cls, a.tagKey, a.care, i⟩ }, none) := by
  simp [findBody, ha, hp, hi, State.beginScan, State.modPort_modPort]

/-- A CONTINUE with the cursor at 256 has no slot to visit (R168). -/
theorem findBody_atEnd {a : FindParams} (hp : parseFind ps = some a) (hc : a.continues = true)
    (h256 : (s.port p).cursor = 256) : findBody p ps s = accepted ([0] ++ num2 256 ++ [1]) s := by
  have hsame : (s.modPort p fun r => { r with cursor := 256 }) = s := s.modPort_unchanged p (by rw [← h256])
  simp [findBody, ha, hp, hc, h256, hsame, findData, findEnd, num1, yesNo]

theorem cancelMatchBody_begins {a : MatchParams} (hp : parseCancelMatch ps = some a)
    (hr : (s.port p).roles.producer = true ∨ s.manager = some p) :
    cancelMatchBody p ps s = (s.modPort p fun r =>
      { r with scan := some ⟨.cancelMatch a.includeOffered 0, a.cls, a.tagKey, a.care, 0⟩ }, none) := by
  have hrole : ((s.port p).roles.producer || s.isManager p) = true := by rwa [Bool.or_eq_true, State.isManager_iff]
  simp [cancelMatchBody, ha, hp, hrole, State.beginScan]

theorem cancelMatchBody_notPermitted (hr : (s.port p).roles.producer = false) (hm : s.manager ≠ some p) :
    cancelMatchBody p ps s = refuse .notPermitted s := by
  have hno : s.isManager p = false := Bool.eq_false_iff.mpr (mt (s.isManager_iff p).mp hm)
  simp [cancelMatchBody, ha, hr, hno]

end

/-- Settles O54: the received state has the port's own cursor and roles, and the bodies begin the scans. -/
theorem scansBegin : Obligations.ScansBegin := by
  unfold Obligations.ScansBegin
  intro s p q ps htakes hadmits
  dsimp only
  have hfind : exec (.find p q ps) s = .next (finishTaken p (findBody p ps (s.received p q ps))) :=
    congrArg _ (hostFrame_takes _ htakes)
  have hcancel : exec (.cancelMatch p q ps) s = .next (finishTaken p (cancelMatchBody p ps (s.received p q ps))) :=
    congrArg _ (hostFrame_takes _ htakes)
  rw [hfind, hcancel, ← State.received_roles s p p q ps, ← State.received_manager s p q ps,
    ← State.received_cursor s p p q ps]
  rw [← State.received_admits s p p q ps] at hadmits
  generalize s.received p q ps = u at *
  refine ⟨fun a i hp hi => ?_, fun a hp hc h256 => ?_, fun a hp => ⟨fun hr => ?_, fun hr hm => ?_⟩⟩
  · have hstart : (if a.continues then (u.port p).cursor else 0) = i.val := by
      obtain ⟨hc, rfl⟩ | ⟨hc, hcursor⟩ := hi
      · rw [hc]; rfl
      · rw [hc]; exact hcursor
    rw [findBody_begins hadmits hp hstart, finishTaken_none]
  · rw [findBody_atEnd hadmits hp hc h256, finishTaken_accepted]
  · rw [cancelMatchBody_begins hadmits hp hr, finishTaken_none]
  · rw [cancelMatchBody_notPermitted hadmits hr hm, finishTaken_refuse]

end Sys2Proof.Machine
end

section
/-! PROOFS. SCAN_VISIT (R167, R169, R170): the hit, the step of the scan after it, one visit, and the statement. -/

namespace Sys2Proof.Machine

/-! ### Hits (R169, R170) -/

theorem State.answersScan_iff (s : State) (i : SlotId) (sc : Scan) : s.answersScan i sc = true ↔
    (sc.cls = none ∨ sc.cls = some (s.job i).cls) ∧ (s.job i).tag &&& sc.care = sc.tagKey &&& sc.care := by
  rw [State.answersScan, tagAnswers, Bool.and_eq_true, beq_iff_eq]
  refine and_congr_left' ?_
  cases sc.cls with
  | none => exact iff_of_true rfl (.inl rfl)
  | some c => rw [beq_iff_eq, Option.some_inj, eq_comm, or_iff_right nofun]

theorem State.findHit_iff (s : State) (p : Port) (i : SlotId) (sc : Scan) (ss : StateSet) :
    s.findHit p i sc ss = true ↔
      ss.has (s.slot i).state = true ∧ s.answersScan i sc = true ∧ s.visible i p = true := by
  simp only [State.findHit, Bool.and_eq_true, and_assoc]

theorem State.cancelHit_iff (s : State) (p : Port) (i : SlotId) (sc : Scan) (incl : Bool) :
    s.cancelHit p i sc incl = true ↔
      ((s.slot i).state = .queued ∨ (s.slot i).state = .offered ∧ incl = true) ∧ s.answersScan i sc = true
        ∧ (s.manager = some p ∨ (s.job i).producer = some p) := by
  simp only [State.cancelHit, State.isManager, Bool.and_eq_true, Bool.or_eq_true, beq_iff_eq, and_assoc]

theorem State.cancelAtVisit_queued {s : State} {i : SlotId} (h : (s.slot i).state = .queued) :
    s.cancelAtVisit i = s.finishJob i .cancelled := if_neg (by rw [h]; exact nofun)

theorem State.cancelAtVisit_offered {s : State} {i : SlotId} (h : (s.slot i).state = .offered) :
    s.cancelAtVisit i = s.cancelOffered i := if_pos h

/-! ### The scan after the visit (R169, R170) -/

/-- The scan goes on at the next slot, with the port's cursor at `n`. -/
def State.scanGoesOn (t : State) (p : Port) (sc : Scan) (k : ScanKind) (n : Nat) : State :=
  t.modPort p fun r => { r with cursor := n, scan := some { sc with kind := k, next := sc.next + 1 } }

/-- The scan stops with its response, with the port's cursor at `n`. -/
def State.scanStops (t : State) (p : Port) (n : Nat) (data : List Byte) : State :=
  (t.modPort p fun r => { r with cursor := n, scan := none }).answer p ⟨.ok, data⟩

/-- A change that writes the cursor the port has is the change without that write. -/
theorem State.modPort_cursor (t : State) {p : Port} {n : Nat} (hn : (t.port p).cursor = n) (sc : Option Scan) :
    (t.modPort p fun r => { r with scan := sc }) = t.modPort p fun r => { r with cursor := n, scan := sc } :=
  t.modPort_congr p (by rw [← hn])

section
variable {t : State} {p : Port} {sc : Scan}

theorem State.advanceScan_find_goesOn {ss : StateSet} {hits : List (Handle × SlotState)} (hlen : hits.length ≠ 8)
    (hi : sc.next.val < 255) :
    t.advanceScan p sc (.find ss hits) = t.scanGoesOn p sc (.find ss hits) (sc.next.val + 1) := by
  have hno : ¬ (hits.length = Config.maxHits ∨ sc.next.val + 1 = 256) := fun h => h.elim hlen fun h => by omega
  simp only [State.advanceScan, if_neg hno, State.modPort_modPort, State.scanGoesOn]

/-- The cursor is at the end exactly after slot 255 (R169). -/
theorem findEnd_succ (i : SlotId) : findEnd (i.val + 1) = [if i.val = 255 then 1 else 0] := by
  have h : 256 ≤ i.val + 1 ↔ i.val = 255 := by omega
  simp only [findEnd, yesNo, h, decide_eq_true_eq]

theorem State.advanceScan_find_stops {ss : StateSet} {hits : List (Handle × SlotState)}
    (hend : hits.length = 8 ∨ sc.next.val = 255) (hf : (t.port p).link.inFlight = true) :
    t.advanceScan p sc (.find ss hits) = t.scanStops p (sc.next.val + 1)
      (num1 hits.length ++ hits.flatMap (fun x => handleBytes x.1 ++ [x.2.code]) ++ num2 (sc.next.val + 1)
        ++ [if sc.next.val = 255 then 1 else 0]) := by
  have hyes : hits.length = Config.maxHits ∨ sc.next.val + 1 = 256 := hend.imp id fun h => by omega
  simp only [State.advanceScan, if_pos hyes, State.modPort_modPort, State.answerInFlight, State.modPort_port_self, hf,
    if_true, findData, findEnd_succ, State.scanStops]

theorem State.advanceScan_cancel_goesOn {incl : Bool} {m n : Nat} (hi : sc.next.val < 255)
    (hn : (t.port p).cursor = n) :
    t.advanceScan p sc (.cancelMatch incl m) = t.scanGoesOn p sc (.cancelMatch incl m) n := by
  have hno : ¬ sc.next.val + 1 = 256 := by omega
  simp only [State.advanceScan, if_neg hno, State.modPort_cursor t hn, State.scanGoesOn]

theorem State.advanceScan_cancel_stops {incl : Bool} {m n : Nat} (hi : sc.next.val = 255)
    (hn : (t.port p).cursor = n) (hf : (t.port p).link.inFlight = true) :
    t.advanceScan p sc (.cancelMatch incl m) = t.scanStops p n (num2 m) := by
  have hyes : sc.next.val + 1 = 256 := by omega
  simp only [State.advanceScan, if_pos hyes, State.modPort_cursor t hn, State.answerInFlight, State.modPort_port_self,
    hf, if_true, State.scanStops]

end

/-! ### One visit (R167) -/

section
variable {s : State} {p : Port} {sc : Scan}

theorem State.visit_find {ss : StateSet} {hits found : List (Handle × SlotState)} (hk : sc.kind = .find ss hits)
    (hfound : (if (s.readRecord sc.next).findHit p sc.next sc ss then
      hits ++ [(s.handle sc.next, ((s.readRecord sc.next).slot sc.next).state)] else hits) = found) :
    s.visit p sc = (s.readRecord sc.next).advanceScan p sc (.find ss found) := by
  have hgen : (s.readRecord sc.next).handle sc.next = s.handle sc.next := by
    rw [State.handle, ((State.Steady.refl s).readRecord sc.next sc.next).1, State.handle]
  rw [← hfound, ← hgen, State.visit, hk]

variable {incl : Bool} {n : Nat} (hk : sc.kind = .cancelMatch incl n)
include hk

theorem State.visit_cancel_hit (h : (s.readRecord sc.next).cancelHit p sc.next sc incl = true) :
    s.visit p sc = ((s.readRecord sc.next).cancelAtVisit sc.next).advanceScan p sc (.cancelMatch incl (n + 1)) := by
  simp only [State.visit, hk, h, if_true]

theorem State.visit_cancel_no_hit (h : ¬ (s.readRecord sc.next).cancelHit p sc.next sc incl = true) :
    s.visit p sc = (s.readRecord sc.next).advanceScan p sc (.cancelMatch incl n) := by
  simp only [State.visit, hk, if_neg h]

end

theorem exec_scanVisit (s : State) (p : Port) : exec (.scanVisit p) s = execScanVisit p s := rfl

section
variable {s : State} {p : Port}

/-- Without a scan, or at a departing port, there is no visit (R173; log entry 7). -/
theorem execScanVisit_none (h : (s.port p).scan = none ∨ (s.port p).departure.isSome = true) :
    execScanVisit p s = .next s := by
  unfold execScanVisit
  split
  next => rfl
  next hno =>
    obtain hscan | hd := h
    · rw [hscan]
    · exact absurd hd fun hd => hno (by rw [State.departing, hd, Bool.or_true])

theorem execScanVisit_some {sc : Scan} (h0 : s.inReset = false) (hd : (s.port p).departure = none)
    (hscan : (s.port p).scan = some sc) : execScanVisit p s = .next (s.visit p sc).close := by
  simp [execScanVisit, h0, State.departing, hd, hscan]

end

/-- Settles O55: the record is read, the slot judged, a hit listed or cancelled, and the scan goes on or stops; none of
that but the scan's own step touches the port's cursor and link. -/
theorem scanVisitJudgesOneSlot : Obligations.ScanVisitJudgesOneSlot := by
  unfold Obligations.ScanVisitJudgesOneSlot
  intro s p h0
  refine ⟨execScanVisit_none, fun sc hd hscan hflight => ?_⟩
  have hread := (State.WorksTo.refl s).readRecord sc.next
  have hexec : exec (.scanVisit p) s = .next (s.visit p sc).close := execScanVisit_some h0 hd hscan
  have hv : (if s.testFails sc.next then s.quarantine sc.next else s) = s.readRecord sc.next := rfl
  dsimp only
  rw [hexec, hv]
  refine ⟨fun ss hits hk found hfound => ?_, fun incl n hk => ?_⟩
  · have hvisit : s.visit p sc = (s.readRecord sc.next).advanceScan p sc (.find ss found) := by
      have hhit_iff := (s.readRecord sc.next).findHit_iff p sc.next sc ss
      rw [State.answersScan_iff] at hhit_iff
      obtain ⟨hstate, hanswers, hvis, rfl⟩ | ⟨hno, rfl⟩ := hfound
      · exact State.visit_find hk (if_pos (hhit_iff.mpr ⟨hstate, hanswers, hvis⟩))
      · exact State.visit_find hk (if_neg (mt hhit_iff.mp hno))
    rw [hvisit]
    refine ⟨fun hend => ?_, fun hlen hi => ?_⟩
    · rw [State.advanceScan_find_stops hend (by rw [hread.link, hflight]), State.scanStops]
    · rw [State.advanceScan_find_goesOn hlen hi, State.scanGoesOn]
  · have hcancel := hread.cancelAtVisit sc.next
    have hhit_iff := (s.readRecord sc.next).cancelHit_iff p sc.next sc incl
    rw [State.answersScan_iff, hread.manager] at hhit_iff
    refine ⟨fun hno => ?_, fun hhit hst hi => ?_, fun hhit hst hi => ?_, fun hhit hi => ⟨fun hst => ?_, fun hst => ?_⟩⟩
    · rw [State.visit_cancel_no_hit hk (mt hhit_iff.mp hno)]
      refine ⟨fun hi => ?_, fun hi => ?_⟩
      · rw [State.advanceScan_cancel_goesOn hi (hread.cursor p), State.scanGoesOn, hk]
      · rw [State.advanceScan_cancel_stops hi (hread.cursor p) (by rw [hread.link, hflight]), State.scanStops]
    all_goals
      rw [State.visit_cancel_hit hk (hhit_iff.mpr hhit)]
    · rw [State.advanceScan_cancel_goesOn hi (hcancel.cursor p), State.scanGoesOn, State.cancelAtVisit_queued hst]
    · rw [State.advanceScan_cancel_goesOn hi (hcancel.cursor p), State.scanGoesOn, State.cancelAtVisit_offered hst]
    · rw [State.advanceScan_cancel_stops hi (hcancel.cursor p) (by rw [hcancel.link, hflight]), State.scanStops,
        State.cancelAtVisit_queued hst]
    · rw [State.advanceScan_cancel_stops hi (hcancel.cursor p) (by rw [hcancel.link, hflight]), State.scanStops,
        State.cancelAtVisit_offered hst]

end Sys2Proof.Machine
end

section
/-! PROOFS. CLEAR_ALL (R186), first its three sweeps: the scans are stopped (R172), the watches of the ports whose drain
ends are freed, and the other watches lose their owed hits (R128). -/

namespace Sys2Proof.Machine

/-! ### The scans (R172) -/

/-- The link of a port whose scan the clear stops: the scan's command, while in flight, ends with INTERRUPTED. -/
def PortRec.interruptedLink (r : PortRec) : Link :=
  match r.scan with
  | some sc => if r.link.inFlight then r.link.answered .interrupted (sc.interruptedData r.cursor) else r.link
  | none => r.link

theorem PortRec.interruptedLink_of_scan {r : PortRec} {sc : Scan} (hscan : r.scan = some sc)
    (hflight : r.link.inFlight = true) :
    r.interruptedLink = r.link.answered .interrupted (sc.interruptedData r.cursor) := by
  simp only [PortRec.interruptedLink, hscan, hflight, if_true]

theorem PortRec.interruptedLink_of_not_in_flight {r : PortRec} (h : r.scan = none ∨ r.link.inFlight = false) :
    r.interruptedLink = r.link := by
  obtain hscan | hflight := h
  · simp only [PortRec.interruptedLink, hscan]
  · simp only [PortRec.interruptedLink, hflight, Bool.false_eq_true, if_false]
    split <;> rfl

/-- The record of a port whose scan, if it has one, is stopped. -/
def PortRec.scanInterrupted (r : PortRec) : PortRec := { r with scan := none, link := r.interruptedLink }

theorem interruptScan_eq (s : State) (p : Port) : interruptScan s p = s.modPort p PortRec.scanInterrupted := by
  unfold interruptScan
  split
  next sc hscan =>
    unfold State.answerInFlight
    rw [State.modPort_port_self]
    split
    next hflight =>
      rw [State.answer_eq, State.modPort_modPort]
      refine s.modPort_congr p ?_
      rw [PortRec.scanInterrupted, PortRec.interruptedLink_of_scan hscan hflight]
    next hflight =>
      have hlink : (s.port p).interruptedLink = (s.port p).link :=
        PortRec.interruptedLink_of_not_in_flight (.inr (Bool.eq_false_iff.mpr hflight))
      refine s.modPort_congr p ?_
      rw [PortRec.scanInterrupted, hlink]
  next hscan =>
    have hself : (s.port p).scanInterrupted = s.port p := by
      rw [PortRec.scanInterrupted, PortRec.interruptedLink_of_not_in_flight (.inl hscan), ← hscan]
    rw [State.modPort, hself, State.port, Fin.getElem_fin, Vector.set_getElem_self]

/-- The stop of every scan. -/
def State.interruptScans (s : State) : State := allPorts.foldl interruptScan s

theorem State.interruptScans_port (s : State) (x : Port) : s.interruptScans.port x = (s.port x).scanInterrupted := by
  refine (foldl_reads (fun t p x => ?_) allPorts (List.nodup_finRange 4) s x).trans (if_pos (List.mem_finRange x))
  rw [interruptScan_eq, State.modPort_port]
  split
  next hx => rw [hx]
  next => rfl

theorem State.interruptScans_rest (s : State) : s.interruptScans = { s with ports := s.interruptScans.ports } :=
  foldl_keeps (P := fun t : State => t = { s with ports := t.ports })
    (fun t p ht => by rw [interruptScan_eq, ht]; rfl) allPorts rfl

/-! ### The ports whose drain ends (R128, R162) -/

theorem PortRec.draining_iff (r : PortRec) : r.draining = true ↔ r.state = .leaving ∧ r.departure = none := by
  simp only [PortRec.draining, Bool.and_eq_true, beq_iff_eq, Option.isNone_iff_eq_none]

/-- The end of a drain empties the port's latch. -/
def PortRec.latchDropped (r : PortRec) : PortRec := if r.draining then { r with latch := none } else r

theorem freeDrained_port (s : State) (p x : Port) :
    (freeDrained s p).port x = if x = p then (s.port x).latchDropped else s.port x := by
  unfold freeDrained PortRec.latchDropped
  split
  next hd =>
    obtain ⟨ws, hws⟩ := s.freeWatches_rest p
    rw [hws, State.modPort_port]
    split
    next hx => subst hx; rw [if_pos hd]; rfl
    next => rfl
  next hd =>
    split
    next hx => subst hx; rw [if_neg hd]
    next => rfl

theorem freeDrained_draining (s : State) (p x : Port) :
    ((freeDrained s p).port x).draining = (s.port x).draining := by
  rw [freeDrained_port]
  unfold PortRec.latchDropped
  split
  · split <;> rfl
  · rfl

theorem freeDrained_watch (s : State) (p : Port) (k : WatchId) : (freeDrained s p).watch k =
    if (s.watch k).state ≠ .free ∧ (s.watch k).owner = some p ∧ (s.port p).draining = true then Watch.cleared
    else s.watch k := by
  unfold freeDrained
  by_cases hd : (s.port p).draining = true
  · simp only [hd, if_true, and_true, State.freeWatches_watch]
  · rw [if_neg hd, if_neg fun h => hd h.2.2]

theorem freeDrained_rest (s : State) (p : Port) : freeDrained s p =
    { s with ports := (freeDrained s p).ports, watches := (freeDrained s p).watches } := by
  unfold freeDrained
  split
  · obtain ⟨ws, hws⟩ := s.freeWatches_rest p
    rw [hws]
    rfl
  · rfl

/-- The freeing of the watches of every port whose drain ends. -/
def State.freeDrains (s : State) : State := allPorts.foldl freeDrained s

theorem State.freeDrains_port (s : State) (x : Port) : s.freeDrains.port x = (s.port x).latchDropped :=
  (foldl_reads freeDrained_port allPorts (List.nodup_finRange 4) s x).trans (if_pos (List.mem_finRange x))

theorem foldl_freeDrained_watch (l : List Port) (s : State) (k : WatchId) : (l.foldl freeDrained s).watch k =
    if (s.watch k).state ≠ .free ∧ ∃ x ∈ l, (s.watch k).owner = some x ∧ (s.port x).draining = true then Watch.cleared
    else s.watch k := by
  induction l generalizing s with
  | nil => simp
  | cons p l ih =>
    rw [List.foldl_cons, ih, freeDrained_watch]
    simp only [freeDrained_draining, List.exists_mem_cons_iff]
    by_cases hp : (s.watch k).state ≠ .free ∧ (s.watch k).owner = some p ∧ (s.port p).draining = true
    · rw [if_pos hp, if_neg fun h => h.1 rfl, if_pos ⟨hp.1, .inl hp.2⟩]
    · rw [if_neg hp]
      refine if_congr (and_congr_right fun hf => ?_) rfl rfl
      rw [or_iff_right fun h => hp ⟨hf, h⟩]

theorem State.freeDrains_watch (s : State) (k : WatchId) : s.freeDrains.watch k =
    if (s.watch k).state ≠ .free ∧ ∃ x, (s.watch k).owner = some x ∧ (s.port x).draining = true then Watch.cleared
    else s.watch k := by
  rw [State.freeDrains, foldl_freeDrained_watch]
  simp only [allPorts, List.mem_finRange, true_and]

theorem State.freeDrains_rest (s : State) :
    s.freeDrains = { s with ports := s.freeDrains.ports, watches := s.freeDrains.watches } :=
  foldl_keeps (P := fun t : State => t = { s with ports := t.ports, watches := t.watches })
    (fun t p ht => by rw [freeDrained_rest, ht]) allPorts rfl

/-! ### The owed hits (R128) -/

/-- A watch entry whose owed hit, if it has one, is discarded under the flag words `ws`. -/
def Watch.hitDropped (w : Watch) (ws : Vector Word 64) : Watch :=
  if w.state = .pending then
    match w.mode with
    | .once => Watch.cleared
    | .persist => { w with state := .armed, held := none, lastMatched := w.matchesValue ws[w.flag] }
  else w

section
variable {w : Watch} (ws : Vector Word 64)

theorem Watch.hitDropped_of_not_pending (hst : w.state ≠ .pending) : w.hitDropped ws = w := if_neg hst

theorem Watch.hitDropped_of_once (hst : w.state = .pending) (hmode : w.mode = .once) :
    w.hitDropped ws = Watch.cleared := by
  simp only [Watch.hitDropped, hst, hmode, if_true]

theorem Watch.hitDropped_of_persist (hst : w.state = .pending) (hmode : w.mode = .persist) : w.hitDropped ws =
    { w with state := .armed, held := none, lastMatched := w.matchesValue ws[w.flag] } := by
  simp only [Watch.hitDropped, hst, hmode, if_true]

end

theorem Watch.hitDropped_not_pending (w : Watch) (ws : Vector Word 64) : (w.hitDropped ws).state ≠ .pending := by
  unfold Watch.hitDropped
  split
  · split <;> exact nofun
  next h => exact h

/-- A watch entry, and the flag words that a watch is compared with. -/
def State.watchOnWords (s : State) (k : WatchId) : Watch × Vector Word 64 := (s.watch k, s.words)

theorem State.clearWatch_watch (s : State) (k x : WatchId) : (s.clearWatch k).watch x =
    if x = k then (s.watch x).hitDropped s.words else s.watch x := by
  unfold State.clearWatch Watch.hitDropped
  by_cases hp : (s.watch k).state = .pending
  · rw [if_pos hp, State.settleWatch, State.modWatch_watch]
    split
    next hx => subst hx; rw [if_pos hp]; rfl
    next => rfl
  · rw [if_neg hp]
    split
    next hx => subst hx; rw [if_neg hp]
    next => rfl

theorem State.clearWatch_rest (s : State) (k : WatchId) :
    s.clearWatch k = { s with watches := (s.clearWatch k).watches } := by
  unfold State.clearWatch
  split <;> rfl

theorem State.clearWatch_watchOnWords (s : State) (k x : WatchId) : (s.clearWatch k).watchOnWords x =
    if x = k then ((s.watchOnWords x).1.hitDropped (s.watchOnWords x).2, (s.watchOnWords x).2)
    else s.watchOnWords x := by
  have hwords : (s.clearWatch k).words = s.words := by rw [State.clearWatch_rest]
  rw [State.watchOnWords, State.clearWatch_watch, hwords]
  split <;> rfl

/-- The discard of every owed hit. -/
def State.clearWatches (s : State) : State := allWatches.foldl State.clearWatch s

theorem State.clearWatches_watch (s : State) (k : WatchId) :
    s.clearWatches.watch k = (s.watch k).hitDropped s.words := by
  have hread : s.clearWatches.watchOnWords k =
      if k ∈ allWatches then ((s.watch k).hitDropped s.words, s.words) else s.watchOnWords k :=
    foldl_reads (g := fun a : Watch × Vector Word 64 => (a.1.hitDropped a.2, a.2)) State.clearWatch_watchOnWords
      allWatches (List.nodup_finRange 16) s k
  have hmem : k ∈ allWatches := List.mem_finRange k
  rw [if_pos hmem, State.watchOnWords, Prod.mk.injEq] at hread
  exact hread.1

theorem State.clearWatches_rest (s : State) : s.clearWatches = { s with watches := s.clearWatches.watches } :=
  foldl_keeps (P := fun t : State => t = { s with watches := t.watches })
    (fun t k ht => by rw [State.clearWatch_rest, ht]) allWatches rfl

end Sys2Proof.Machine
end

section
/-! PROOFS. CLEAR_ALL, concluded: what each record is after it, that nothing is owed any more, and the statement
(R186). -/

namespace Sys2Proof.Machine

/-! ### A port's record (R143, R162) -/

/-- Of a port whose drain the clear ends, the latch is emptied by either part of it. -/
theorem PortRec.clear_latchDropped (r : PortRec) : r.latchDropped.clear = r.clear := by
  unfold PortRec.latchDropped
  split
  next hd =>
    have hd' : PortRec.draining { r with latch := none } = true := hd
    rw [PortRec.clear, if_pos hd', PortRec.clear, if_pos hd]
    rfl
  next => rfl

theorem PortRec.clear_link (r : PortRec) : r.clear.link = r.link := by
  unfold PortRec.clear
  dsimp only
  split <;> rfl

/-- What the clear makes of any port's record (R92, R143, R19). -/
theorem PortRec.clear_fields (r : PortRec) :
    r.clear.notices = NoticeSet.clear ∧ r.clear.workingSet = [] ∧ r.clear.quotaCount = 0 ∧ r.clear.scan = r.scan
      ∧ r.clear.quota = r.quota ∧ r.clear.departure = r.departure ∧ r.clear.prst = r.prst
      ∧ r.clear.queue = if r.state = .joined ∨ r.state = .leaving then [.portNotice .cleared] else [] := by
  have hsession : r.inSession = true ↔ r.state = .joined ∨ r.state = .leaving := by
    simp only [PortRec.inSession, Bool.or_eq_true, beq_iff_eq]
  unfold PortRec.clear
  dsimp only
  split
  next hd =>
    have hdep := (r.draining_iff.mp hd).2
    exact ⟨rfl, rfl, rfl, rfl, rfl, hdep.symm, rfl, if_congr hsession rfl rfl⟩
  next => exact ⟨rfl, rfl, rfl, rfl, rfl, rfl, rfl, if_congr hsession rfl rfl⟩

/-- A port whose drain is not ended keeps its session (R186). -/
theorem PortRec.clear_of_not_draining {r : PortRec} (hd : ¬ (r.state = .leaving ∧ r.departure = none)) :
    r.clear.state = r.state ∧ r.clear.roles = r.roles ∧ r.clear.credits = r.credits ∧ r.clear.mask = r.mask
      ∧ r.clear.floor = r.floor ∧ r.clear.latch = r.latch ∧ r.clear.cursor = r.cursor := by
  rw [PortRec.clear, if_neg (mt r.draining_iff.mp hd)]
  exact ⟨rfl, rfl, rfl, rfl, rfl, rfl, rfl⟩

/-- A port whose drain is ended stands IDLE without a session (R162; log entry 18). -/
theorem PortRec.clear_of_draining {r : PortRec} (hd : r.state = .leaving ∧ r.departure = none) :
    r.clear.state = .idle ∧ r.clear.roles = Roles.absent ∧ r.clear.credits = 0 ∧ r.clear.mask = 0
      ∧ r.clear.floor = 0 ∧ r.clear.latch = none ∧ r.clear.cursor = 0 ∧ r.clear.missed = 0
      ∧ r.clear.stalled = false := by
  rw [PortRec.clear, if_pos (r.draining_iff.mpr hd)]
  exact ⟨rfl, rfl, rfl, rfl, rfl, rfl, rfl, rfl, rfl⟩

/-! ### The whole clear (R186) -/

/-- The clear after its sweeps over scans and watches: every block's store is emptied. -/
theorem State.clearAll_eq (s : State) : s.clearAll =
    { s.interruptScans.freeDrains.clearWatches with
      slots := mapV Slot.clear s.interruptScans.freeDrains.clearWatches.slots
      freeList := allSlots
      classQueues := Vector.replicate 8 []
      seqCounter := 0
      chains := Vector.replicate 64 ChainEntry.cleared
      ports := mapV PortRec.clear s.interruptScans.freeDrains.clearWatches.ports } := rfl

/-- The sweeps change port records and watches alone. -/
theorem State.clearSweeps_rest (s : State) : s.interruptScans.freeDrains.clearWatches =
    { s with
      ports := s.interruptScans.freeDrains.ports
      watches := s.interruptScans.freeDrains.clearWatches.watches } := by
  have hscans := s.interruptScans_rest
  generalize s.interruptScans = t at *
  have hdrains := t.freeDrains_rest
  generalize t.freeDrains = u at *
  rw [u.clearWatches_rest, hdrains, hscans]

theorem State.clearAll_rest (s : State) : s.clearAll =
    { s with
      ports := s.clearAll.ports, slots := s.clearAll.slots, freeList := s.clearAll.freeList
      classQueues := s.clearAll.classQueues, seqCounter := s.clearAll.seqCounter, chains := s.clearAll.chains
      watches := s.clearAll.watches } := by
  have hsweeps := s.clearSweeps_rest
  rw [State.clearAll_eq]
  generalize s.interruptScans.freeDrains.clearWatches = t at *
  rw [hsweeps]

theorem State.clearAll_port (s : State) (x : Port) : s.clearAll.port x = (s.port x).scanInterrupted.clear := by
  have hread : s.clearAll.port x = (s.interruptScans.freeDrains.clearWatches.port x).clear := by
    rw [State.clearAll_eq, State.port, Fin.getElem_fin, getElem_mapV]
    rfl
  have hport : s.interruptScans.freeDrains.clearWatches.port x = s.interruptScans.freeDrains.port x := by
    rw [State.port, State.clearSweeps_rest, State.port]
  rw [hread, hport, State.freeDrains_port, PortRec.clear_latchDropped, State.interruptScans_port]

theorem State.clearAll_slot (s : State) (i : SlotId) : s.clearAll.slot i = (s.slot i).clear := by
  have hslots : s.clearAll.slots = mapV Slot.clear s.slots := by
    rw [State.clearAll_eq, State.clearSweeps_rest]
  exact State.slot_of_mapV hslots i

theorem State.clearAll_freeList (s : State) : s.clearAll.freeList = List.finRange 256 := by
  rw [State.clearAll_eq, allSlots]

theorem State.clearAll_seqCounter (s : State) : s.clearAll.seqCounter = 0 := by rw [State.clearAll_eq]

theorem State.clearAll_chain (s : State) (e : ChainId) : s.clearAll.chain e = ChainEntry.cleared := by
  rw [State.clearAll_eq]
  exact Vector.getElem_replicate _

theorem State.clearAll_classQueue (s : State) (c : ClassId) : s.clearAll.classQueue c = [] := by
  rw [State.clearAll_eq]
  exact Vector.getElem_replicate _

/-- A watch entry of a port whose drain is ended is freed, and any other loses its owed hit (R128). -/
theorem State.clearAll_watch (s : State) (k : WatchId) : s.clearAll.watch k =
    if (s.watch k).state ≠ .free ∧ ∃ x, (s.watch k).owner = some x ∧ (s.port x).draining = true then Watch.cleared
    else (s.watch k).hitDropped s.words := by
  have hread : s.clearAll.watch k = s.interruptScans.freeDrains.clearWatches.watch k := by
    rw [State.clearAll_eq, State.watch, State.watch]
  have hwatch : s.interruptScans.watch k = s.watch k := by rw [State.watch, State.interruptScans_rest, State.watch]
  have hdraining (x : Port) : (s.interruptScans.port x).draining = (s.port x).draining := by
    rw [State.interruptScans_port]
    rfl
  have hwords : s.interruptScans.freeDrains.words = s.words := by
    rw [State.freeDrains_rest, State.interruptScans_rest]
  rw [hread, State.clearWatches_watch, hwords, State.freeDrains_watch, hwatch]
  simp only [hdraining]
  split <;> rfl

theorem State.clearAll_not_owed (s : State) (x : Port) : s.clearAll.owed x = false := by
  rw [← Bool.not_eq_true, State.owed_iff]
  rintro (hn | ⟨i, hi⟩ | ⟨e, he⟩ | ⟨k, hk⟩)
  · rw [State.clearAll_port, (PortRec.clear_fields _).1] at hn
    exact nomatch hn
  · rw [State.clearAll_slot] at hi
    simp [Slot.clear, Slot.empty, Slot.owesProducer, Slot.owesConsumer] at hi
  · rw [State.clearAll_chain] at he
    exact nomatch he
  · have hpending : (s.clearAll.watch k).state = .pending := by
      rw [Watch.owes, Bool.and_eq_true, beq_iff_eq] at hk
      exact hk.1
    rw [State.clearAll_watch] at hpending
    split at hpending
    · exact nomatch hpending
    · exact Watch.hitDropped_not_pending _ _ hpending

/-! ### The statement -/

/-- The block of a command without parameters passes the parameter step (R197). -/
theorem parseEmpty_nil : parseEmpty [] = some () := rfl

/-- CLEAR_ALL's response counts the records as they stand before it (R186). -/
theorem clearAllBody_received {s : State} {p : Port} {q : Seq} (ha : s.admits p [.joined, .leaving] = true)
    (hm : s.manager = some p) : clearAllBody p [] (s.received p q []) = accepted
      (num2 (256 - s.countState .free) ++ num1 (allPorts.countP fun x => (s.port x).scan.isSome)
        ++ num1 (allPorts.countP fun x => (s.port x).state == .joined || (s.port x).state == .leaving))
      (s.received p q []).clearAll := by
  have ha' : (s.received p q []).admits p inSession = true := (s.received_admits p p q [] _).trans ha
  have hm' : (s.received p q []).isManager p = true := (s.isManager_iff p).mpr hm
  rw [clearAllBody, managerCommand_of _ ha' hm' parseEmpty_nil]
  simp only [State.countState, State.received_slot, State.received_scan, PortRec.inSession, State.received_state]

/-- A CLEAR_ALL of the manager clears each port's record as it stood, but for what the taking of the command and the
stop of a scan have changed. -/
theorem State.received_clearAll_port (s : State) (p x : Port) (q : Seq) (ps : List Byte) :
    ∃ pdo link missed stalled, (s.received p q ps).clearAll.port x = PortRec.clear { s.port x with
      pdo := pdo, link := link, missed := missed, stalled := stalled, scan := none } := by
  have hrest := s.received_port_rest p x q ps
  rw [State.clearAll_port]
  generalize (s.received p q ps).port x = r at hrest ⊢
  rw [hrest]
  exact ⟨_, _, _, _, rfl⟩

/-- Settles O57: the three sweeps and the clear rules of the blocks, record by record. -/
theorem clearAllEmptiesTheStore : Obligations.ClearAllEmptiesTheStore := by
  unfold Obligations.ClearAllEmptiesTheStore
  intro s p q ht hadm hm
  have hexec : exec (.clearAll p q []) s =
      .next (finishTaken p (clearAllBody p [] (s.received p q []))) := congrArg _ (hostFrame_takes _ ht)
  have hother (x : Port) (hx : x ≠ p) :
      ((s.received p q []).clearAll.port x).link = (s.port x).interruptedLink := by
    rw [State.clearAll_port, PortRec.clear_link, State.received_port, if_neg hx]
    rfl
  have hwatch (k : WatchId) := (s.received p q []).clearAll_watch k
  simp only [PortRec.draining_iff, State.received_watch, State.received_state, State.received_departure] at hwatch
  refine ⟨(s.received p q []).clearAll, ?_, State.clearAll_slot _, State.clearAll_freeList _,
    State.clearAll_classQueue _, State.clearAll_seqCounter _, State.clearAll_chain _, fun x => ?_,
    fun x hd => ?_, fun x hd => ?_, fun x hx hidle => ?_,
    fun x sc hx hscan hflight => ?_, fun k hk => ?_, fun k x hf ho hd => ?_, State.clearAll_not_owed _,
    State.clearAll_rest _⟩
  · rw [hexec, clearAllBody_received hadm hm, finishTaken_accepted]
  · obtain ⟨pdo, link, missed, stalled, hx⟩ := s.received_clearAll_port p x q []
    rw [hx]
    exact PortRec.clear_fields _
  · obtain ⟨pdo, link, missed, stalled, hx⟩ := s.received_clearAll_port p x q []
    rw [hx]
    exact PortRec.clear_of_not_draining hd
  · obtain ⟨pdo, link, missed, stalled, hx⟩ := s.received_clearAll_port p x q []
    rw [hx]
    exact PortRec.clear_of_draining hd
  · rw [hother x hx, PortRec.interruptedLink_of_not_in_flight hidle]
  · rw [hother x hx, PortRec.interruptedLink_of_scan hscan hflight]
    obtain ⟨_ | _, _, _, _, _⟩ := sc <;> rfl
  · rw [hwatch, if_neg fun ⟨_, x, ho, hd⟩ => hk x ho hd]
    exact ⟨Watch.hitDropped_of_not_pending _, Watch.hitDropped_of_once _, Watch.hitDropped_of_persist _⟩
  · rw [hwatch, if_pos ⟨hf, x, ho, hd⟩]

end Sys2Proof.Machine
end

section
/-! PROOFS. TICK (R177, R178): the deadlines and promotion instants that one tick brings nearer, and the statement. -/

namespace Sys2Proof.Machine

/-- A deadline ahead comes one tick nearer when the time base advances by one (R178). -/
theorem State.ticksTo_succ {s t : State} {d : Word} (ht : t.timeBase = s.timeBase + 1)
    (h1 : 1 ≤ (d - s.timeBase).toNat) (h2 : (d - s.timeBase).toNat ≤ 65535) : t.ticksTo d = s.ticksTo d - 1 := by
  have hnearer : (d - t.timeBase).toNat = (d - s.timeBase).toNat - 1 := by
    rw [ht]
    bv_omega
  have hahead : (d - t.timeBase).toNat ≤ Config.maxAhead := by
    rw [hnearer]
    exact (Nat.sub_le _ _).trans h2
  rw [State.ticksTo, if_pos hahead, State.ticksTo, if_pos (show (d - s.timeBase).toNat ≤ Config.maxAhead from h2),
    hnearer]

/-- Where R29 puts a promotion instant, and R177 makes it due. -/
theorem Slot.promotionInstant_iff (sl : Slot) (now : Word) (row : ClassPolicy) :
    sl.promotionInstant now row = true ↔ sl.state = .queued ∧ row.ageStep ≠ 0 ∧ sl.job.urgency < row.ageCeiling
      ∧ ∃ since : Word, sl.job.queuedSince = some since
        ∧ ∃ k : Nat, 1 ≤ k ∧ (now - since).toNat = k * row.ageStep := by
  unfold Slot.promotionInstant
  split
  next since hst hsince =>
    have hmultiple (hstep : row.ageStep ≠ 0) : (∃ k : Nat, 1 ≤ k ∧ (now - since).toNat = k * row.ageStep)
        ↔ (now - since).toNat ≠ 0 ∧ (now - since).toNat % row.ageStep = 0 := by
      constructor
      · rintro ⟨k, hk, hn⟩
        rw [hn]
        exact ⟨Nat.mul_ne_zero (Nat.ne_of_gt hk) hstep, Nat.mul_mod_left _ _⟩
      · rintro ⟨hne, hmod⟩
        obtain ⟨k, hk⟩ := Nat.dvd_of_mod_eq_zero hmod
        refine ⟨k, Nat.pos_of_ne_zero fun h0 => hne ?_, by rw [hk, Nat.mul_comm]⟩
        rw [hk, h0, Nat.mul_zero]
    simp only [Bool.and_eq_true, bne_iff_ne, beq_iff_eq, decide_eq_true_iff, hst, hsince, Option.some.injEq,
      exists_eq_left', true_and, and_assoc]
    refine and_congr_right fun hstep => ?_
    rw [hmultiple hstep, ← and_assoc, and_comm]
  next hno =>
    refine iff_of_false nofun fun ⟨hst, _, _, since, hsince, _⟩ => hno since hst hsince

/-- A promotion instant that the tick reaches becomes due (R177). -/
theorem State.tick_slot (s : State) (i : SlotId) : s.tick.slot i =
    if (s.slot i).promotionInstant s.tick.timeBase (s.policyOf (s.job i).cls) then
      { s.slot i with promoDue := (s.slot i).promoDue + 1 }
    else s.slot i := by
  have hi : s.tick.slot i = _ := State.slot_of_mapV rfl i
  rw [hi]
  rfl

/-- Settles O2: a tick moves the time base, and with it the deadlines and the promotion instants; on an empty queue a
step is one REFCLK period, the last of which is the tick. -/
theorem tickAdvancesTheTimeBase : Obligations.TickAdvancesTheTimeBase := by
  unfold Obligations.TickAdvancesTheTimeBase
  intro s h0
  have htime : s.tick.timeBase = s.timeBase + 1 := rfl
  refine ⟨s.tick, ?_, fun hempty => ?_, htime, rfl, fun d => State.ticksTo_succ htime, fun i => ?_, rfl⟩
  · exact congrArg Host.Outcome.next (if_neg (Bool.eq_false_iff.mp h0))
  · have hstep : step s = .next s.refclk := by rw [step, hempty]
    rw [hstep, State.refclk, if_neg (Bool.eq_false_iff.mp h0)]
  · have hinstant := (s.slot i).promotionInstant_iff s.tick.timeBase (s.policyOf (s.job i).cls)
    rw [State.tick_slot]
    exact ⟨fun h => if_pos (hinstant.mpr h), fun h => if_neg (mt hinstant.mp h)⟩

end Sys2Proof.Machine
end

section
/-! PROOFS. What power-on reset leaves (R187), in `State.reset` and after RESET_N_ASSERT. -/

namespace Sys2Proof.Machine

theorem State.powerOn_port (s : State) (p : Port) : s.powerOn.port p =
    { PortRec.powerOn with
      prst := (s.port p).prst, abandoned := (s.port p).abandoned || (s.port p).reading.isSome } := by
  rw [State.powerOn, State.port, Fin.getElem_fin, getElem_mapV, State.port, Fin.getElem_fin]

theorem State.powerOn_rest (s : State) :
    s.powerOn = { State.reset with ports := s.powerOn.ports, pending := s.pending } := rfl

/-- RESET_N_ASSERT leaves every block at its power-on values, whatever stood there (R187). -/
theorem State.powerOn_atPowerOn (s : State) : s.powerOn.atPowerOn := by
  unfold State.atPowerOn
  simp only [State.powerOn_port]
  exact ⟨⟨rfl, rfl, rfl, rfl, fun c => Vector.getElem_replicate _, fun _ => rfl⟩,
    ⟨fun i => Vector.getElem_replicate _, by rw [State.powerOn, State.reset], fun _ => rfl⟩,
    ⟨fun c => Vector.getElem_replicate _, rfl, fun e => Vector.getElem_replicate _⟩,
    ⟨fun _ => ⟨rfl, rfl⟩, rfl, rfl, rfl, fun c => Vector.getElem_replicate _⟩,
    fun _ => ⟨rfl, rfl, rfl, rfl⟩,
    ⟨fun f => Vector.getElem_replicate _, fun k => Vector.getElem_replicate _⟩,
    ⟨rfl, fun _ => ⟨rfl, rfl, rfl, rfl, rfl, rfl⟩⟩, fun _ => ⟨rfl, rfl, rfl, rfl⟩⟩

/-- RESET_N_ASSERT changes nothing in the state after reset. -/
theorem State.powerOn_reset : State.reset.powerOn = State.reset := by
  have hports : State.reset.powerOn.ports = State.reset.ports := by
    ext1 k hk
    have hport := State.reset.powerOn_port ⟨k, hk⟩
    have hreset : State.reset.port ⟨k, hk⟩ = PortRec.powerOn := Vector.getElem_replicate _
    rw [hreset] at hport
    exact hport.trans hreset.symm
  rw [State.powerOn_rest, hports]

section
variable {s : State} (h : s.atPowerOn)
include h

theorem State.atPowerOn.port_fields (p : Port) :
    (s.port p).queue = [] ∧ (s.port p).state = .down ∧ (s.port p).departure = none := by
  obtain ⟨-, -, -, -, hqueue, -, ⟨-, hport⟩, -⟩ := h
  exact ⟨(hqueue p).2.2.1, (hport p).1, (hport p).2.1⟩

theorem State.atPowerOn.queuesFit : s.queuesFit := fun p => by
  rw [(h.port_fields p).1]
  exact Nat.zero_le _

theorem State.atPowerOn.claimLaw : s.claimLaw := by
  have hdep (p : Port) := (h.port_fields p).2.2
  obtain ⟨-, -, -, ⟨-, -, -, hhold, -⟩, -, -, ⟨hmanager, -⟩, -⟩ := h
  refine ⟨fun p hm => ?_, fun hh => ?_, fun p hd => ?_⟩
  · rw [hmanager] at hm
    exact nomatch hm
  · rw [hhold] at hh
    exact nomatch hh
  · rw [hdep] at hd
    exact nomatch hd

/-- The attention output of a DOWN port is released (R132). -/
theorem State.atPowerOn.attention (p : Port) : s.attention p = false := by
  rw [State.attention, (h.port_fields p).2.1, bne_self_eq_false, Bool.false_and]

end

/-- Settles O3: the power-on values, which are those of `State.reset`, and the laws and released attention outputs that
follow from them. -/
theorem resetLeavesPowerOnValues : Obligations.ResetLeavesPowerOnValues := by
  unfold Obligations.ResetLeavesPowerOnValues
  have hreset : State.reset.atPowerOn := State.powerOn_reset ▸ State.reset.powerOn_atPowerOn
  refine ⟨hreset, ⟨hreset.queuesFit, hreset.claimLaw⟩, hreset.attention, fun s => ?_⟩
  have hs := s.powerOn_atPowerOn
  refine ⟨s.powerOn, rfl, hs, rfl, hs.attention, fun p => ?_, rfl⟩
  rw [State.powerOn_port]
  exact ⟨rfl, rfl⟩

end Sys2Proof.Machine
end

section
/-! PROOFS. The manager's settings (R179, R181 to R185): what each command answers, and the statement. -/

namespace Sys2Proof.Machine

/-! ### Parameter blocks -/

theorem parseDivisor_num2 {d : Nat} (h1 : 1 ≤ d) (h2 : d ≤ 65535) : parseDivisor (num2 d) = some d := by
  have hd := half_toNat (n := d) (by omega)
  have hne : d ≠ 0 := by omega
  simp only [parseDivisor, num2, hd, if_neg hne]

theorem parseQuota_bytes (x : Port) {n : Nat} (h : n ≤ 256) : parseQuota (num1 x.val ++ num2 n) = some (x, n) := by
  have hx := finOf_ofNat (n := 4) (by decide) x
  have hn := half_toNat (n := n) (by omega)
  simp only [parseQuota, num1, num2, List.cons_append, List.nil_append, hx, hn, if_neg (Nat.not_lt.mpr h)]

theorem parseOrphan_code (o : OrphanPolicy) : parseOrphan [o.code] = some o := by
  cases o <;> rfl

/-! ### A class row (R181) -/

theorem State.setPolicy_policyOf (s : State) (c x : ClassId) (r : ClassPolicy) :
    (s.setPolicy c r).policyOf x = if x = c then r else s.policyOf x := by
  have hset : (s.setPolicy c r).policy = s.policy.set c r := by
    unfold State.setPolicy
    dsimp only
    split <;> rfl
  rw [State.policyOf, hset, Fin.getElem_fin, Vector.getElem_set]
  refine if_congr ?_ rfl rfl
  rw [eq_comm, Fin.val_inj]

/-- A changed age step withdraws due promotions, and no slot loses anything else (R30, R181). -/
theorem State.setPolicy_slot (s : State) (c : ClassId) (r : ClassPolicy) (i : SlotId) :
    ((s.setPolicy c r).slot i).state = (s.slot i).state ∧ ((s.setPolicy c r).slot i).gen = (s.slot i).gen
      ∧ ((s.setPolicy c r).slot i).job = (s.slot i).job := by
  unfold State.setPolicy
  dsimp only
  split
  · exact ⟨rfl, rfl, rfl⟩
  · rw [State.withdrawPromotions, State.slot_of_mapV rfl i]
    split <;> exact ⟨rfl, rfl, rfl⟩

theorem State.setPolicy_rest (s : State) (c : ClassId) (r : ClassPolicy) :
    s.setPolicy c r = { s with policy := (s.setPolicy c r).policy, slots := (s.setPolicy c r).slots } := by
  unfold State.setPolicy
  dsimp only
  split <;> rfl

/-! ### What the commands answer -/

section
variable {s : State} {p : Port} {ps : List Byte} (ha : s.admits p inSession = true) (hm : s.isManager p = true)
include ha hm

theorem holdBody_changes (hh : s.hold = false) :
    holdBody p [] s = accepted [1] ({ s with hold := true }.notifyJoined .holdOn) := by
  rw [holdBody, managerCommand_of _ ha hm parseEmpty_nil, hh]
  rfl

theorem holdBody_again (hh : s.hold = true) : holdBody p [] s = accepted [0] s := by
  rw [holdBody, managerCommand_of _ ha hm parseEmpty_nil, hh]
  rfl

theorem resumeBody_changes (hh : s.hold = true) :
    resumeBody p [] s = accepted [1] ({ s with hold := false }.notifyJoined .holdOff) := by
  rw [resumeBody, managerCommand_of _ ha hm parseEmpty_nil, hh]
  rfl

theorem resumeBody_again (hh : s.hold = false) : resumeBody p [] s = accepted [0] s := by
  rw [resumeBody, managerCommand_of _ ha hm parseEmpty_nil, hh]
  rfl

theorem pauseClassBody_of (c : ClassId) :
    pauseClassBody p (num1 c.val) s = accepted (pausedData s c) (s.setPaused c true) := by
  rw [pauseClassBody, managerCommand_of _ ha hm (parseFin_num1 (by decide) c)]

theorem unpauseClassBody_of (c : ClassId) :
    unpauseClassBody p (num1 c.val) s = accepted (pausedData s c) (s.setPaused c false) := by
  rw [unpauseClassBody, managerCommand_of _ ha hm (parseFin_num1 (by decide) c)]

theorem setTickDivisorBody_of {d : Nat} (h1 : 1 ≤ d) (h2 : d ≤ 65535) : setTickDivisorBody p (num2 d) s =
    accepted (num2 s.divisor ++ num2 d) { s with divisor := d, prescaler := 0 } := by
  rw [setTickDivisorBody, managerCommand_of _ ha hm (parseDivisor_num2 h1 h2)]

theorem setQuotaBody_of (x : Port) {n : Nat} (h : n ≤ 256) : setQuotaBody p (num1 x.val ++ num2 n) s =
    accepted (num1 x.val ++ num2 (s.port x).quota ++ num2 n ++ num2 (s.port x).quotaCount)
      (s.modPort x fun r => { r with quota := n }) := by
  rw [setQuotaBody, managerCommand_of _ ha hm (parseQuota_bytes x h)]

theorem setOrphanPolicyBody_of (o : OrphanPolicy) : setOrphanPolicyBody p [o.code] s =
    accepted [s.orphanPolicy.code, o.code] { s with orphanPolicy := o } := by
  rw [setOrphanPolicyBody, managerCommand_of _ ha hm (parseOrphan_code o)]

variable {c : ClassId} {r : ClassPolicy} (hp : parsePolicy ps = some (c, r))
include hp

theorem setClassPolicyBody_noHold (hh : s.hold = false) : setClassPolicyBody p ps s = refuse .holdRequired s := by
  rw [setClassPolicyBody, managerCommand_of _ ha hm hp, hh]
  rfl

theorem setClassPolicyBody_of (hh : s.hold = true) : setClassPolicyBody p ps s =
    accepted (num1 c.val ++ (s.policyOf c).bytes ++ r.bytes) (s.setPolicy c r) := by
  rw [setClassPolicyBody, managerCommand_of _ ha hm hp, hh]
  rfl

end

/-- A taken command that its own part accepts is answered OK (R192, R196). -/
theorem exec_of_accepted {s t : State} {p : Port} {q : Seq} {ps data : List Byte} {i : Instr} (body : State → Taken)
    (ht : s.takes p q ps) (hi : exec i s = .next (hostFrame p q ps body s))
    (hbody : body (s.received p q ps) = accepted data t) : exec i s = .next (t.answer p ⟨.ok, data⟩) := by
  rw [hi, hostFrame_takes _ ht, hbody, finishTaken_accepted]

/-- Settles O56: each command of the manager has its own effect on the received state, which holds every setting as it
stood. -/
theorem managerSettings : Obligations.ManagerSettings := by
  unfold Obligations.ManagerSettings
  intro s p q ps ht hadm hman
  have ha : (s.received p q ps).admits p inSession = true := (s.received_admits p p q ps _).trans hadm
  have hm : (s.received p q ps).isManager p = true := (s.isManager_iff p).mpr hman
  dsimp only
  refine ⟨fun hps => ?_, fun c hps => ?_, fun d hps h1 h2 => ?_, fun x n hps hn => ?_, fun o hps => ?_,
    fun c r hp => ⟨fun hh => ?_, fun hh => ?_⟩⟩
  · subst hps
    refine ⟨fun hh => ⟨?_, ?_⟩, fun hh => ⟨?_, ?_⟩⟩
    · exact exec_of_accepted (holdBody p []) ht rfl (holdBody_changes ha hm hh)
    · exact exec_of_accepted (resumeBody p []) ht rfl (resumeBody_again ha hm hh)
    · exact exec_of_accepted (holdBody p []) ht rfl (holdBody_again ha hm hh)
    · exact exec_of_accepted (resumeBody p []) ht rfl (resumeBody_changes ha hm hh)
  · subst hps
    exact ⟨exec_of_accepted (pauseClassBody p _) ht rfl (pauseClassBody_of ha hm c),
      exec_of_accepted (unpauseClassBody p _) ht rfl (unpauseClassBody_of ha hm c)⟩
  · subst hps
    exact exec_of_accepted (setTickDivisorBody p _) ht rfl (setTickDivisorBody_of ha hm h1 h2)
  · subst hps
    obtain ⟨hquota, hcount⟩ := s.received_quota p x q (num1 x.val ++ num2 n)
    rw [← hquota, ← hcount]
    exact exec_of_accepted (setQuotaBody p _) ht rfl (setQuotaBody_of ha hm x hn)
  · subst hps
    exact exec_of_accepted (setOrphanPolicyBody p _) ht rfl (setOrphanPolicyBody_of ha hm o)
  · have hexec : exec (.setClassPolicy p q ps) s =
        .next (finishTaken p (setClassPolicyBody p ps (s.received p q ps))) := congrArg _ (hostFrame_takes _ ht)
    rw [hexec, setClassPolicyBody_noHold ha hm hp hh, finishTaken_refuse]
  · exact ⟨_, exec_of_accepted (setClassPolicyBody p ps) ht rfl (setClassPolicyBody_of ha hm hp hh),
      fun x => State.setPolicy_policyOf _ c x r, State.setPolicy_slot _ c r, State.setPolicy_rest _ c r⟩

end Sys2Proof.Machine
end

section
/-! PROOFS. Command frames (R190, R191): the frame step inverts their encoding, the CRC-8 by its shifts, and a host
command as the bytes of its frame (R192). -/

namespace Sys2Proof.Machine

/-! ### The frame step (R190) -/

theorem length_frameBytes (f : Frame) : (frameBytes f).length = 5 + f.params.length := by
  simp only [frameBytes, List.length_append, List.length_cons, List.length_nil]
  omega

/-- A sequence number reads back from its byte, whose upper four bits are zero (R190). -/
theorem setWidth_zeroExtend (q : Seq) : (BitVec.zeroExtend 8 q).setWidth 4 = q := by
  rw [BitVec.zeroExtend, BitVec.setWidth_setWidth_of_le _ (by decide), BitVec.setWidth_eq]

/-- A byte whose upper four bits are zero is the byte of its sequence number (R190). -/
theorem zeroExtend_setWidth {b : Byte} (h : b.toNat ≤ 15) : BitVec.zeroExtend 8 (b.setWidth 4) = b := by
  apply BitVec.eq_of_toNat_eq
  simp only [BitVec.toNat_setWidth]
  omega

/-- The frame step passes the bytes that a frame with no more than 64 parameter bytes encodes to (R190). -/
theorem checkFrame_frameBytes {f : Frame} (h : f.params.length ≤ 64) : checkFrame (frameBytes f) = some f := by
  have hlen : (BitVec.ofNat 8 f.params.length).toNat = f.params.length := by
    rw [BitVec.toNat_ofNat]
    omega
  have hseq : (BitVec.zeroExtend 8 f.seq).toNat ≤ 15 := by
    have hq := f.seq.isLt
    simp only [BitVec.toNat_setWidth]
    omega
  simp only [frameBytes, List.cons_append, checkFrame, hlen, List.take_left, List.getLastD_concat,
    List.length_append, List.length_singleton, setWidth_zeroExtend]
  exact if_pos ⟨trivial, hseq, h, trivial, trivial⟩

/-- A list with one element more than `n` is its first `n` and its last. -/
theorem take_concat_getLastD {l : List Byte} {n : Nat} (h : l.length = n + 1) : l.take n ++ [l.getLastD 0] = l := by
  have hne : l ≠ [] := List.ne_nil_of_length_eq_add_one h
  have htake : l.take n = l.dropLast := by rw [List.dropLast_eq_take, h, Nat.add_sub_cancel]
  rw [htake, List.getLastD_eq_getLast?, List.getLast?_eq_some_getLast hne]
  exact List.dropLast_append_getLast hne

/-- Bytes that the frame step passes are the encoding of the frame it reads (R190). -/
theorem frameBytes_of_checkFrame {bytes : List Byte} {f : Frame} (h : checkFrame bytes = some f) :
    bytes = frameBytes f ∧ f.params.length ≤ 64 := by
  unfold checkFrame at h
  split at h
  next kind sq code len rest =>
    split at h
    next hgood =>
      obtain ⟨rfl, hsq, hmax, hrest, hcrc⟩ := hgood
      cases h
      have htake : (rest.take len.toNat).length = len.toNat := by
        rw [List.length_take, hrest]
        omega
      refine ⟨?_, htake.trans_le hmax⟩
      rw [frameBytes, htake, zeroExtend_setWidth hsq, BitVec.ofNat_toNat, BitVec.setWidth_eq]
      dsimp only
      rw [hcrc, List.cons_append, List.cons_append, List.cons_append, List.cons_append, take_concat_getLastD hrest]
    · cases h
  · cases h

/-- The frame of every well-formed host command names it, and is not too long (R190, R197). -/
theorem frameRoundTrip (i : Instr) : Laws.FrameRoundTrip.Statement i := by
  cases hf : i.frame with
  | none => exact Laws.frameRoundTrip_none hf
  | some pf =>
    cases i
    case leaveDrain p q ps => exact Laws.FrameRoundTrip.leaveDrain p q ps
    case leaveNow p q ps => exact Laws.FrameRoundTrip.leaveNow p q ps
    all_goals cases hf
    all_goals exact Laws.frameRoundTrip_of rfl rfl rfl

/-- Settles O6: the frame step inverts the encoding both ways, and the command code of the frame it reads names the
command. -/
theorem commandFramesRoundTrip : Obligations.CommandFramesRoundTrip := by
  unfold Obligations.CommandFramesRoundTrip
  refine ⟨fun bytes f => ⟨frameBytes_of_checkFrame, ?_⟩, fun i p f hw hf => ?_⟩
  · rintro ⟨rfl, h⟩
    exact checkFrame_frameBytes h
  · obtain ⟨hcode, hlen⟩ := frameRoundTrip i p f hw hf
    rw [decodeCommand, checkFrame_frameBytes hlen, Option.bind_some, hcode]

/-! ### The CRC-8 (R191) -/

theorem crc8_concat (bs : List Byte) (b : Byte) : crc8 (bs ++ [b]) = crcByte (crc8 bs) b := by
  rw [crc8, List.foldl_append]
  rfl

/-- The check value of R191: the characters 1 to 9 through the register. -/
theorem crc8_checkValue : crc8 [0x31, 0x32, 0x33, 0x34, 0x35, 0x36, 0x37, 0x38, 0x39] = 0xF4 := by
  simp [crc8, crcByte, crcBit, Nat.repeat, BitVec.msb_eq_decide]

/-- What precedes the CRC-8 in a response frame (R194). -/
def responseHead (marker : Byte) (q : Seq) (st : Status) (flags : Byte) (data : List Byte) : List Byte :=
  marker :: BitVec.zeroExtend 8 q :: st.code :: flags :: num2 data.length ++ data

theorem responseBytes_eq (marker : Byte) (q : Seq) (st : Status) (flags : Byte) (data : List Byte) :
    responseBytes marker q st flags data =
      responseHead marker q st flags data ++ [crc8 (responseHead marker q st flags data)] := rfl

/-- Settles O7: one byte through the register, the shift by the bit it shifts out, and the last byte of a response. -/
theorem crcIsComputedByShifts : Obligations.CrcIsComputedByShifts := by
  unfold Obligations.CrcIsComputedByShifts
  refine ⟨rfl, crc8_concat, fun r => ?_, crc8_checkValue, fun s p => ?_⟩
  · rw [crcBit, BitVec.msb_eq_getLsbD_last]
  · exact ⟨_, responseBytes_eq _ _ _ (s.flagsByte p) _, rfl⟩

/-! ### A host command is the bytes of its frame (R190, R192, R193) -/

/-- What becomes of a command frame's bytes at the end of its transaction (R190). -/
def State.receiveFrame (s : State) (p : Port) (bytes : List Byte) : State :=
  let t := s.drivePdo p (List.replicate bytes.length 0xFF)
  match checkFrame bytes with
  | some f => t.goodFrame p f.seq (commandBody p f)
  | none => t.badFrame p (badFrameSeq bytes)

/-- A transaction whose kind byte is not RESPONSE is a command frame (R189, R190). -/
theorem State.transaction_of_kind (s : State) (p : Port) {bytes : List Byte} (hne : bytes ≠ [])
    (hkind : bytes.head? ≠ some kindResponse) :
    s.transaction p bytes = s.endTransaction p fun u => u.receiveFrame p bytes := by
  cases bytes with
  | nil => exact absurd rfl hne
  | cons kind rest =>
    have hk : kind ≠ kindResponse := fun e => hkind (congrArg some e)
    simp only [State.transaction, if_neg hk]
    rfl

theorem State.receiveFrame_good (s : State) (p : Port) {bytes : List Byte} {f : Frame}
    (h : checkFrame bytes = some f) : s.receiveFrame p bytes =
      (s.drivePdo p (List.replicate bytes.length 0xFF)).goodFrame p f.seq (commandBody p f) := by
  simp only [State.receiveFrame, h]

theorem State.receiveFrame_bad (s : State) (p : Port) {bytes : List Byte} (h : checkFrame bytes = none) :
    s.receiveFrame p bytes =
      (s.drivePdo p (List.replicate bytes.length 0xFF)).badFrame p (badFrameSeq bytes) := by
  simp only [State.receiveFrame, h]

theorem frameBytes_kind (f : Frame) : frameBytes f ≠ [] ∧ (frameBytes f).head? ≠ some kindResponse :=
  ⟨List.cons_ne_nil _ _, fun h => absurd (Option.some.inj h : kindCommand = kindResponse) (by decide)⟩

/-- The bytes of a good frame are handled as the frame they spell (R190). -/
theorem State.transaction_frameBytes (s : State) (p : Port) {f : Frame} (h : f.params.length ≤ 64) :
    s.transaction p (frameBytes f) = hostFrame p f.seq f.params (commandBody p f) s := by
  obtain ⟨hne, hkind⟩ := frameBytes_kind f
  rw [s.transaction_of_kind p hne hkind, hostFrame]
  refine congrArg (s.endTransaction p) (funext fun u => ?_)
  rw [u.receiveFrame_good p (checkFrame_frameBytes h), length_frameBytes]
  exact (if_pos h).symm

/-- Settles O8: either way the link handles the frame alike, and the command code names the command's own part. -/
theorem hostCommandIsItsFrame : Obligations.HostCommandIsItsFrame := by
  unfold Obligations.HostCommandIsItsFrame
  intro s i p f hf hlen
  rw [exec_of_frame hf, s.transaction_frameBytes p hlen]

end Sys2Proof.Machine
end

section
/-! PROOFS. What becomes of a command frame by the state of its port's link (R190, R192, R193). -/

namespace Sys2Proof.Machine

/-! ### Taken commands (R192) -/

/-- Settles O9: the two changes are changes of the port's record alone. -/
theorem takenCommandChangesOnlyItsPort : Obligations.TakenCommandChangesOnlyItsPort := by
  unfold Obligations.TakenCommandChangesOnlyItsPort
  intro s p q ps r
  exact s.modPort_modPort p _ _

/-! ### Frames that are not taken -/

section
variable (s : State) {p : Port} (q : Seq) (body : State → Taken)

theorem State.goodFrame_inFlight (hf : (s.port p).link.inFlight = true) :
    s.goodFrame p q body = s.overrunFrame p := if_pos hf

theorem State.badFrame_inFlight (hf : (s.port p).link.inFlight = true) : s.badFrame p q = s.overrunFrame p :=
  if_pos hf

theorem State.badFrame_of_not_inFlight (hf : (s.port p).link.inFlight = false) :
    s.badFrame p q = s.modLink p fun l => { l with buffer := some ⟨q, .badFrame, []⟩ } := by
  simp only [State.badFrame, hf, Bool.false_eq_true, if_false]

variable (hf : (s.port p).link.inFlight = false)
include hf

theorem State.goodFrame_down (hd : (s.port p).state = .down) :
    s.goodFrame p q body = s.modLink p fun l => { l with buffer := some ⟨q, .wrongState, []⟩ } := by
  simp only [State.goodFrame, hf, hd, Bool.false_eq_true, if_false, if_true]

theorem State.goodFrame_again (hd : (s.port p).state ≠ .down) (hq : (s.port p).link.lastSeq = some q) :
    s.goodFrame p q body = s.modLink p fun l => { l with buffer := l.cached } := by
  simp only [State.goodFrame, hf, hd, hq, Bool.false_eq_true, if_false, if_true]

end

/-- What the part drives while a frame comes in shows in its port's record alone. -/
theorem State.drivePdo_port (s : State) (p : Port) (out : List Byte) :
    (s.drivePdo p out).port p = { s.port p with pdo := out } := s.modPort_port_self p _

/-- A frame that changes its port's link and no more, with what the part drives while it comes in. -/
theorem State.drivePdo_modLink (s : State) (p : Port) (out : List Byte) (f : Link → Link) :
    (s.drivePdo p out).modLink p f = s.modPort p fun r => { r with pdo := out, link := f r.link } :=
  s.modPort_modPort p _ _

/-- A transaction of a command frame out of reset, not abandoned, with no response read to end (R189). -/
theorem State.transaction_receives {s : State} {p : Port} {bytes : List Byte} (h0 : s.inReset = false)
    (h1 : (s.port p).abandoned = false) (hr : (s.port p).reading = none) (hne : bytes ≠ [])
    (hkind : bytes.head? ≠ some kindResponse) : s.transaction p bytes = s.receiveFrame p bytes := by
  rw [s.transaction_of_kind p hne hkind, State.endTransaction_effect _ h1 h0, State.endRead_none hr]

/-- With a command in flight any frame is an overrun (R193). -/
theorem State.receiveFrame_inFlight {s : State} {p : Port} (bytes : List Byte)
    (hf : (s.port p).link.inFlight = true) : s.receiveFrame p bytes =
      (s.drivePdo p (List.replicate bytes.length 0xFF)).overrunFrame p := by
  have hf' : ((s.drivePdo p (List.replicate bytes.length 0xFF)).port p).link.inFlight = true := by
    rw [s.drivePdo_port]
    exact hf
  cases h : checkFrame bytes with
  | some f => rw [s.receiveFrame_good p h, State.goodFrame_inFlight _ _ _ hf']
  | none => rw [s.receiveFrame_bad p h, State.badFrame_inFlight _ _ hf']

/-- Settles O10: the bad frame and the overrun, each a change of the link of its port. -/
theorem badAndOverrunFrames : Obligations.BadAndOverrunFrames := by
  unfold Obligations.BadAndOverrunFrames
  intro s p bytes h0 h1 hr
  refine ⟨fun hf hw => congrArg Host.Outcome.next ?_, fun hf hw => congrArg Host.Outcome.next ?_⟩
  · simp only [Instr.wellFormed, badFrameRow, Bool.and_eq_true, decide_eq_true_iff, Option.isNone_iff_eq_none] at hw
    obtain ⟨⟨hne, hkind⟩, hbad⟩ := hw
    rw [State.transaction_receives h0 h1 hr hne hkind, s.receiveFrame_bad p hbad,
      State.badFrame_of_not_inFlight _ _ (by rw [s.drivePdo_port]; exact hf), State.drivePdo_modLink]
  · simp only [Instr.wellFormed, Bool.and_eq_true, decide_eq_true_iff] at hw
    obtain ⟨hne, hkind⟩ := hw
    rw [State.transaction_receives h0 h1 hr hne hkind, State.receiveFrame_inFlight bytes hf, State.overrunFrame,
      State.drivePdo_modLink]

theorem commandBody_unknown {p : Port} {f : Frame} (h : commandOf p f = none) (s : State) :
    commandBody p f s = refuse .badCommand s := by
  simp only [commandBody, h]

/-- Settles O11: the frame is the one its bytes encode, and meets the link by the state of its port. -/
theorem goodFrameMeetsTheLinkState : Obligations.GoodFrameMeetsTheLinkState := by
  unfold Obligations.GoodFrameMeetsTheLinkState
  intro s p bytes f h0 h1 hr hf hgood
  obtain ⟨rfl, hlen⟩ := frameBytes_of_checkFrame hgood
  obtain ⟨hne, hkind⟩ := frameBytes_kind f
  have hrec : s.transaction p (frameBytes f) = _ :=
    (State.transaction_receives h0 h1 hr hne hkind).trans (s.receiveFrame_good p hgood)
  have hport := s.drivePdo_port p (List.replicate (frameBytes f).length 0xFF)
  refine ⟨fun hd hq => congrArg Host.Outcome.next ?_, fun hd => congrArg Host.Outcome.next ?_,
    fun hd hq hcode => congrArg Host.Outcome.next ?_⟩
  · rw [hrec, State.goodFrame_again _ _ _ (hport ▸ hf) (hport ▸ hd) (hport ▸ hq), State.drivePdo_modLink]
  · rw [hrec, State.goodFrame_down _ _ _ (hport ▸ hf) (hport ▸ hd), State.drivePdo_modLink]
  · rw [s.transaction_frameBytes p hlen, hostFrame_takes _ ⟨h0, h1, hr, hd, hf, hq, hlen⟩, commandBody_unknown hcode,
      finishTaken_refuse]

end Sys2Proof.Machine
end

section
/-! PROOFS. Response reads (R189, R194): the frame a read drives, taken whole or in parts. -/

namespace Sys2Proof.Machine

/-! ### The frame of a read (R194) -/

theorem length_responseBytes (marker : Byte) (q : Seq) (st : Status) (flags : Byte) (data : List Byte) :
    (responseBytes marker q st flags data).length = 7 + data.length := by
  rw [responseBytes_eq]
  simp only [responseHead, num2, List.length_append, List.length_cons, List.length_nil]
  omega

/-- A read that ends before the flags byte drives the same bytes whatever that byte is (R194). -/
theorem clockedOut_responseBytes_short {n : Nat} (hn : n < 4) (marker : Byte) (q : Seq) (st : Status) (a b : Byte)
    (data : List Byte) :
    clockedOut (responseBytes marker q st a data) n = clockedOut (responseBytes marker q st b data) n := by
  have htake : (responseBytes marker q st a data).take n = (responseBytes marker q st b data).take n := by
    have h3 (flags : Byte) : (responseBytes marker q st flags data).take n =
        [marker, BitVec.zeroExtend 8 q, st.code].take n := by
      refine List.take_append_of_le_length (l₁ := [marker, BitVec.zeroExtend 8 q, st.code]) ?_
      exact Nat.le_of_lt_succ hn
    rw [h3, h3]
  rw [clockedOut, clockedOut, htake, length_responseBytes, length_responseBytes]

/-- The flags byte as a list of three bits (R194). -/
theorem State.flagsByte_eq (s : State) (p : Port) : s.flagsByte p =
    (if (s.port p).queue = [] then 0 else 1) ||| (if (s.port p).link.overrun then 2 else 0)
      ||| (if s.owed p then 4 else 0) := by
  simp only [State.flagsByte, List.isEmpty_iff]

/-- The overrun bit of the flags byte (R194). -/
theorem State.flagsByte_overrun (s : State) (p : Port) : (s.flagsByte p).getLsbD 1 = (s.port p).link.overrun := by
  rw [State.flagsByte_eq]
  split <;> cases (s.port p).link.overrun <;> cases s.owed p <;> rfl

/-- The state of the port's link fixes what a read drives, but for its flags byte, when it begins (R194's table). -/
theorem State.opening_eq (s : State) (p : Port) : s.opening p =
    if (s.port p).link.inFlight then ⟨false, (s.port p).link.lastSeq.getD 0, .ok, [], none, 0⟩
    else match (s.port p).link.buffer with
      | some b => ⟨true, b.seq, b.status, b.data, none, 0⟩
      | none => ⟨true, 0, .wrongState, [], none, 0⟩ := rfl

/-- The frame of a read that reaches its end in this state, by the state of the port's link (R194's table). -/
theorem State.responseFrame_eq (s : State) (p : Port) : s.responseFrame p =
    if (s.port p).link.inFlight then
      responseBytes 0x96 ((s.port p).link.lastSeq.getD 0) .ok (s.flagsByte p) []
    else match (s.port p).link.buffer with
      | some b => responseBytes 0xA5 b.seq b.status (s.flagsByte p) b.data
      | none => responseBytes 0xA5 0 .wrongState (s.flagsByte p) [] := by
  rw [State.responseFrame, State.opening_eq]
  cases (s.port p).link.inFlight with
  | true => rfl
  | false => cases (s.port p).link.buffer <;> rfl

theorem State.opening_ready (s : State) (p : Port) : (s.opening p).ready = !(s.port p).link.inFlight := by
  rw [State.opening_eq]
  cases (s.port p).link.inFlight with
  | true => rfl
  | false => cases (s.port p).link.buffer <;> rfl

/-- A read that begins has clocked no byte of its frame, and its flags byte is not formed (R194). -/
theorem State.opening_unformed (s : State) (p : Port) :
    (s.opening p).flags = none ∧ (s.opening p).clocked = 0 := by
  rw [State.opening_eq]
  cases (s.port p).link.inFlight with
  | true => exact ⟨rfl, rfl⟩
  | false => cases (s.port p).link.buffer <;> exact ⟨rfl, rfl⟩

/-! ### A read taken whole -/

/-- What a whole read of `n` bytes drives (R189, R194). -/
theorem State.clockedOut_opening (s : State) (p : Port) (n : Nat) :
    clockedOut ((s.opening p).clock n (s.flagsByte p)).frame n = clockedOut (s.responseFrame p) n := by
  obtain ⟨hflags, hclocked⟩ := s.opening_unformed p
  rcases Nat.lt_or_ge n 4 with hn | hn
  · exact clockedOut_responseBytes_short hn ..
  · have hclock : ((s.opening p).clock n (s.flagsByte p)).frame = s.responseFrame p := by
      simp only [Reading.clock, State.responseFrame, Reading.frame, hflags, hclocked, Nat.zero_add, if_pos hn,
        Option.getD_some, Option.getD_none]
    rw [hclock]

/-- A whole read reports the overrun when it is READY and reaches the flags byte (R194). -/
theorem State.reportsOverrun_opening (s : State) (p : Port) (n : Nat) :
    ((s.opening p).clock n (s.flagsByte p)).reportsOverrun
      = (!(s.port p).link.inFlight && decide (4 ≤ n) && (s.port p).link.overrun) := by
  obtain ⟨hflags, hclocked⟩ := s.opening_unformed p
  rw [← s.opening_ready p, ← s.flagsByte_overrun p]
  simp only [Reading.reportsOverrun, Reading.clock, hflags, hclocked, Nat.zero_add, Option.getD_none]
  by_cases hn : 4 ≤ n
  · simp only [hn, if_true, Option.getD_some, decide_true, Bool.and_true]
  · simp only [hn, if_false, Option.getD_none, decide_false, Bool.and_false, Bool.false_and]
    exact Bool.and_false _

/-- A whole read drives its frame, and clears the overrun flag when it has reported it (R194). -/
theorem State.readResponse_drives {s : State} {p : Port} (n : Nat) (hr : (s.port p).reading = none)
    {out : List Byte} (hout : s.responseFrame p = out) :
    s.readResponse p n = s.modPort p fun r =>
      { r with
        pdo := clockedOut out n
        link := { r.link with overrun := r.link.overrun && (r.link.inFlight || decide (n < 4)) } } := by
  have hover : ((s.port p).link.overrun && !((s.opening p).clock n (s.flagsByte p)).reportsOverrun)
      = ((s.port p).link.overrun && ((s.port p).link.inFlight || decide (n < 4))) := by
    have hn : decide (n < 4) = !decide (4 ≤ n) := by simp only [← decide_not, Nat.not_le]
    rw [s.reportsOverrun_opening, hn]
    cases (s.port p).link.overrun <;> cases (s.port p).link.inFlight <;> cases decide (4 ≤ n) <;> rfl
  rw [s.readResponse_eq, s.clockedOut_opening, hout]
  refine s.modPort_congr p ?_
  dsimp only
  rw [hover, hr]

/-! ### A read taken in parts -/

/-- When a read ends, none is in progress (R194). -/
theorem State.endRead_reading (s : State) (p : Port) : ((s.endRead p).port p).reading = none := by
  cases h : (s.port p).reading with
  | none => rw [State.endRead_none h, h]
  | some rd => rw [State.endRead_some h, State.modPort_port_self]

theorem State.endRead_inReset (s : State) (p : Port) : (s.endRead p).inReset = s.inReset := by
  cases h : (s.port p).reading with
  | none => rw [State.endRead_none h]
  | some rd => rw [State.endRead_some h, State.modPort_inReset]

theorem State.endRead_abandoned (s : State) (p : Port) :
    ((s.endRead p).port p).abandoned = (s.port p).abandoned := by
  cases h : (s.port p).reading with
  | none => rw [State.endRead_none h]
  | some rd => rw [State.endRead_some h, State.modPort_port_self]

/-- The flags byte is formed when the read has reached it, and stays (R194). -/
theorem Reading.clock_eq (rd : Reading) (n : Nat) (flags : Byte) : rd.clock n flags =
    { rd with
      clocked := rd.clocked + n
      flags := if rd.clocked + n < 4 then rd.flags else some (rd.flags.getD flags) } := by
  rw [Reading.clock, ← ite_not]
  simp only [Nat.not_le]

/-- A read that begins ends one in progress (R189). -/
theorem State.openRead_eq {s : State} {p : Port} (h0 : s.inReset = false) (ha : (s.port p).abandoned = false) :
    s.openRead p = (s.endRead p).beginRead p := by
  have hsame : (s.modPort p fun r => { r with abandoned := false }) = s := by
    refine s.modPort_unchanged p ?_
    rw [← ha]
  simp only [State.openRead, hsame, h0, Bool.false_eq_true, if_false]

/-- A read that begins with none in progress (R189, R194). -/
theorem State.openRead_begins {s : State} {p : Port} (h0 : s.inReset = false) (hr : (s.port p).reading = none) :
    s.openRead p = s.modPort p fun r => { r with abandoned := false, pdo := [0xFF], reading := some (s.opening p) } := by
  have hr' : ((s.modPort p fun r => { r with abandoned := false }).port p).reading = none := by
    rw [State.modPort_port_self]
    exact hr
  have hopening : (s.modPort p fun r => { r with abandoned := false }).opening p = s.opening p := by
    simp only [State.opening_eq, State.modPort_port_self]
  simp only [State.openRead, h0, Bool.false_eq_true, if_false]
  rw [State.endRead_none hr', State.beginRead, hopening, State.modPort_modPort]

/-- Every transaction, and every read that begins, comes after the end of a read in progress (R189). -/
theorem exec_after_endRead {s : State} {p : Port} (h0 : s.inReset = false) (ha : (s.port p).abandoned = false)
    {i : Instr} (hi : i.transactionPort = some p ∨ i = .responseRead p .begins) : exec i s = exec i (s.endRead p) := by
  have h0' : (s.endRead p).inReset = false := (s.endRead_inReset p).trans h0
  have ha' : ((s.endRead p).port p).abandoned = false := (s.endRead_abandoned p).trans ha
  have hended : (s.endRead p).endRead p = s.endRead p := State.endRead_none (s.endRead_reading p)
  rcases hi with hi | rfl
  · obtain ⟨effect, heffect⟩ := exec_endTransaction hi
    rw [heffect, heffect, State.endTransaction_effect _ ha h0, State.endTransaction_effect _ ha' h0', hended]
  · refine congrArg Host.Outcome.next (?_ : s.openRead p = (s.endRead p).openRead p)
    rw [State.openRead_eq h0 ha, State.openRead_eq h0' ha', hended]

/-! ### The rows -/

section
variable {s : State} {p : Port} (h0 : s.inReset = false) (ha : (s.port p).abandoned = false)
include h0 ha

theorem exec_responseRead_whole (n : Nat) (hr : (s.port p).reading = none) :
    exec (.responseRead p (.whole n)) s = .next (s.readResponse p n) := by
  refine congrArg Host.Outcome.next ((State.endTransaction_effect _ ha h0).trans ?_)
  rw [State.endRead_none hr]

theorem exec_responseRead_clocks (n : Nat) : exec (.responseRead p (.clocks n)) s = .next (s.clockRead p n) := by
  refine congrArg Host.Outcome.next (if_neg ?_)
  rw [h0, ha]
  exact Bool.false_ne_true

theorem exec_responseRead_ends : exec (.responseRead p .ends) s = .next (s.endRead p) :=
  congrArg Host.Outcome.next (State.endTransaction_effect id ha h0)

end

/-- Settles O12: the terms of the statement are the model's, and each part of a read is the change it makes to the
port's record. -/
theorem responseReadReturnsTheBuffer : Obligations.ResponseReadReturnsTheBuffer := by
  unfold Obligations.ResponseReadReturnsTheBuffer
  intro code frame driven s p h0 r flags
  have hcode : code = Status.code := by
    funext st
    cases st <;> rfl
  have hframe : frame = responseBytes := by
    simp only [frame, hcode]
    rfl
  have hdriven : driven = clockedOut := rfl
  have hflags : flags = s.flagsByte p := (s.flagsByte_eq p).symm
  clear_value frame driven flags
  subst hframe hdriven hflags
  refine ⟨fun n ha hr => ?_, fun hr => ?_, fun rd ha hr => ⟨fun n => ?_, ?_⟩, fun ha hr => ⟨?_, fun n => ?_⟩,
    fun ha => ⟨s.endRead p, exec_responseRead_ends h0 ha, fun i hi => exec_after_endRead h0 ha hi⟩⟩
  · exact (exec_responseRead_whole h0 ha n hr).trans
      (congrArg Host.Outcome.next (State.readResponse_drives n hr (s.responseFrame_eq p)))
  · exact congrArg Host.Outcome.next ((State.openRead_begins h0 hr).trans (s.modPort_congr p rfl))
  · refine (exec_responseRead_clocks h0 ha n).trans (congrArg Host.Outcome.next ?_)
    rw [State.clockRead_some n hr, rd.clock_eq]
    rfl
  · exact (exec_responseRead_ends h0 ha).trans (congrArg Host.Outcome.next (State.endRead_some hr))
  · rw [exec_responseRead_ends h0 ha, State.endRead_none hr]
  · rw [exec_responseRead_clocks h0 ha, State.clockRead_none n hr]

end Sys2Proof.Machine
end

section
/-! PROOFS. Parameter blocks read back (R197, R198, and each command's own rule). -/

namespace Sys2Proof.Machine

/-! ### Values -/

/-- A number of one byte reads back from it (R197). -/
theorem byte_toNat {n : Nat} (h : n ≤ 255) : (BitVec.ofNat 8 n).toNat = n := by
  rw [BitVec.toNat_ofNat]
  omega

theorem yesNoOf_yesNo (b : Bool) : yesNoOf (if b then 1 else 0) = some b := by
  cases b <;> rfl

/-- A tag, a key or a care mask reads back from its two bytes (R197). -/
theorem half_tag (t : BitVec 16) : half (BitVec.ofNat 8 t.toNat) (BitVec.ofNat 8 (t.toNat / 256)) = t := by
  rw [half_ofNat t.isLt, BitVec.ofNat_toNat, BitVec.setWidth_eq]

/-- A byte is a class's code, or ANY's (R197). -/
abbrev classCode (b : Byte) (c : Option ClassId) : Prop :=
  b = 0xFF ∧ c = none ∨ ∃ k : ClassId, [b] = num1 k.val ∧ c = some k

theorem classOrAny_of_code {b : Byte} {c : Option ClassId} (h : classCode b c) : classOrAny b = some c := by
  rcases h with ⟨rfl, rfl⟩ | ⟨k, hk, rfl⟩
  · rfl
  · obtain rfl : b = BitVec.ofNat 8 k.val := List.head_eq_of_cons_eq hk
    have hne : BitVec.ofNat 8 k.val ≠ 0xFF := by
      intro e
      have hval : k.val = 0xFF := (byte_toNat (by omega)).symm.trans (congrArg BitVec.toNat e)
      omega
    rw [classOrAny, if_neg hne, finOf_ofNat (by decide)]
    rfl

theorem fnOf_of_mem {b : Byte} {fn : CombineFn} (h : (b, fn) ∈ [(0, .replace), (1, .and), (2, .or), (3, .xor)]) :
    fnOf b = some fn := by
  fin_cases h <;> rfl

theorem whenOf_of_mem {w : Byte} {wh : When} (h : (w, wh) ∈ [(0, .successOnly), (1, .anyFinish)]) :
    whenOf w = some wh := by
  fin_cases h <;> rfl

theorem outcomeOf_of_mem {o : Byte} {st : FinishStatus} (h : (o, st) ∈ [(0, .success), (1, .failed), (2, .cancelled)]) :
    outcomeOf o = some st := by
  fin_cases h <;> rfl

theorem watchModeOf_of_mem {b : Byte} {md : WatchMode} (h : (b, md) ∈ [(0, .once), (1, .persist)]) :
    watchModeOf b = some md := by
  fin_cases h <;> rfl

theorem stateSetOf_of_le {ss : Byte} (h1 : 1 ≤ ss.toNat) (h31 : ss.toNat ≤ 31) : stateSetOf ss =
    some ⟨ss.getLsbD 0, ss.getLsbD 1, ss.getLsbD 2, ss.getLsbD 3, ss.getLsbD 4⟩ := by
  refine if_neg (not_or.mpr ⟨?_, by omega⟩)
  rintro rfl
  exact absurd h1 (by decide)

/-! ### Sessions (R148, R150) -/

theorem parseJoin_consumer {r m : Byte} {n f : Nat} (hc : r.getLsbD 1 = true) (h1 : 1 ≤ n) (h16 : n ≤ 16)
    (hf : f ≤ 15) : parseJoin ([r] ++ num1 n ++ [m] ++ num1 f) = some ⟨⟨r.getLsbD 0, true⟩, n, m, f⟩ := by
  have hn' := byte_toNat (n := n) (by omega)
  have hf' := byte_toNat (n := f) (by omega)
  have hfit : ¬(n = 0 ∨ n > 16 ∨ f > 15) := by omega
  simp only [num1, List.cons_append, List.nil_append, parseJoin, hc, hn', hf', Bool.not_true, Bool.and_false,
    Bool.false_eq_true, if_false, if_true, if_neg hfit]

/-- A producer-only JOIN ignores credits, mask and floor (R148). -/
theorem parseJoin_producer {r : Byte} (a b c : Byte) (hp : r.getLsbD 0 = true) (hc : r.getLsbD 1 = false) :
    parseJoin [r, a, b, c] = some ⟨⟨true, false⟩, 0, 0, 0⟩ := by
  simp only [parseJoin, hp, hc, Bool.not_true, Bool.not_false, Bool.false_and, Bool.false_eq_true, if_false]

theorem parseService_num1 (m : Byte) {f : Nat} (hf : f ≤ 15) : parseService ([m] ++ num1 f) = some (m, f) := by
  have hf' := byte_toNat (n := f) (by omega)
  have h := parseService_of_le (m := m) (f := BitVec.ofNat 8 f) (by omega)
  rwa [hf'] at h

/-! ### Jobs (R77, R78, R80) -/

theorem parseRenew_handleBytes (h : Handle) {n : Nat} (hn : n < 65536) :
    parseRenew (handleBytes h ++ num2 n) = some (h, n) := by
  simp only [handleBytes, num2, List.cons_append, List.nil_append, parseRenew, slotOf_ofNat, half_toNat hn]

theorem parseReturn_handleBytes (h : Handle) (b : Bool) :
    parseReturn (handleBytes h ++ yesNo b) = some (h, b) := by
  simp only [handleBytes, yesNo, List.cons_append, List.nil_append, parseReturn, slotOf_ofNat, yesNoOf_yesNo,
    Option.map_some]

theorem parseComplete_bytes {o : Byte} {st : FinishStatus} (ho : outcomeOf o = some st) (h : Handle) (u : Byte)
    {ws : List Word} (hn : ws.length ≤ 4) :
    parseComplete (handleBytes h ++ [o, u] ++ num1 ws.length ++ ws.flatMap wordBytes) = some ⟨h, st, u, ws⟩ := by
  have hn' := byte_toNat (n := ws.length) (by omega)
  have hfit : ¬(ws.length > 4 ∨ ws.length ≠ ws.length) := by omega
  simp only [handleBytes, num1, List.cons_append, List.nil_append, parseComplete, ho, wordsOf_flatMap, slotOf_ofNat,
    hn', if_neg hfit]

/-! ### Flags and watches (R117, R122) -/

theorem parseCombine_bytes {b : Byte} {fn : CombineFn} (hb : fnOf b = some fn) (f : FlagId) (o m c : Word)
    (l e : Bool) :
    parseCombine (num1 f.val ++ [b] ++ yesNo l ++ yesNo e ++ wordBytes o ++ wordBytes m ++ wordBytes c)
      = some ⟨f, fn, l, e, o, m, c⟩ := by
  simp only [num1, yesNo, wordBytes, List.cons_append, List.nil_append, parseCombine, hb, yesNoOf_yesNo,
    finOf_ofNat (n := 64) (by decide), word_wordBytes]

theorem parseWatch_bytes {b : Byte} {md : WatchMode} (hb : watchModeOf b = some md) (f : FlagId) (c v : Word) :
    parseWatch (num1 f.val ++ [b] ++ wordBytes c ++ wordBytes v) = some ⟨f, md, c, v⟩ := by
  simp only [num1, wordBytes, List.cons_append, List.nil_append, parseWatch, hb,
    finOf_ofNat (n := 64) (by decide), word_wordBytes]

/-! ### SUBMIT (R198) -/

/-- A completion action reads back from its eleven bytes. -/
theorem parseAction_bytes {b w : Byte} {fn : CombineFn} {wh : When} (hb : fnOf b = some fn) (hw : whenOf w = some wh)
    (f : FlagId) (o m : Word) (rest : List Byte) :
    parseAction true (num1 f.val ++ [b, w] ++ wordBytes o ++ wordBytes m ++ rest)
      = some (some ⟨f, fn, wh, o, m⟩, rest) := by
  simp only [num1, wordBytes, List.cons_append, List.nil_append, parseAction, hb, hw, if_true,
    finOf_ofNat (n := 64) (by decide), word_wordBytes]

/-- A SUBMIT block reads back from its ten bytes, its action and its payload. -/
theorem parseSubmit_bytes {u l a : Nat} {fl : Byte} {action : Option Action} {rest : List Byte} {ws : List Word}
    (c : ClassId) (ch : Byte) (t : BitVec 16) (hu : u ≤ 15) (hl : l < 65536) (ha : a ≤ 7) (hn : ws.length ≤ 8)
    (hrest : parseAction (fl.getLsbD 2) rest = some (action, ws.flatMap wordBytes)) :
    parseSubmit (num1 c.val ++ num1 u ++ [fl, ch] ++ num2 t.toNat ++ num2 l ++ num1 a ++ num1 ws.length ++ rest)
      = some ⟨c, u, fl.getLsbD 0, fl.getLsbD 1, ch, t, l, a, action, ws⟩ := by
  have hu' := byte_toNat (n := u) (by omega)
  have ha' := byte_toNat (n := a) (by omega)
  have hn' := byte_toNat (n := ws.length) (by omega)
  have hfit : ¬(u > 15 ∨ a > 7 ∨ ws.length > 8 ∨ ws.length ≠ ws.length) := by omega
  simp only [num1, num2, List.cons_append, List.nil_append, parseSubmit, finOf_ofNat (n := 8) (by decide), hrest,
    wordsOf_flatMap, hu', ha', hn', half_tag, half_toNat hl, if_neg hfit]

/-- The flags byte of a SUBMIT block without an action: report and strict (R198). -/
theorem submitFlags_plain (r st : Bool) :
    ((if r then 1 else 0) ||| (if st then 2 else 0) : Byte).getLsbD 0 = r
      ∧ ((if r then 1 else 0) ||| (if st then 2 else 0) : Byte).getLsbD 1 = st
      ∧ ((if r then 1 else 0) ||| (if st then 2 else 0) : Byte).getLsbD 2 = false := by
  cases r <;> cases st <;> decide

/-- The flags byte of a SUBMIT block with an action (R198). -/
theorem submitFlags_action (r st : Bool) :
    ((if r then 1 else 0) ||| (if st then 2 else 0) ||| 4 : Byte).getLsbD 0 = r
      ∧ ((if r then 1 else 0) ||| (if st then 2 else 0) ||| 4 : Byte).getLsbD 1 = st
      ∧ ((if r then 1 else 0) ||| (if st then 2 else 0) ||| 4 : Byte).getLsbD 2 = true := by
  obtain ⟨h0, h1, -⟩ := submitFlags_plain r st
  refine ⟨?_, ?_, ?_⟩
  · rw [BitVec.getLsbD_or, h0]
    exact Bool.or_false r
  · rw [BitVec.getLsbD_or, h1]
    exact Bool.or_false st
  · rw [BitVec.getLsbD_or]
    exact Bool.or_true _

theorem parseSubmit_action {b w : Byte} {fn : CombineFn} {wh : When} (hb : fnOf b = some fn) (hw : whenOf w = some wh)
    (c : ClassId) {u l a : Nat} (ch : Byte) (t : BitVec 16) (f : FlagId) (o m : Word) (r st : Bool) {ws : List Word}
    (hu : u ≤ 15) (hl : l < 65536) (ha : a ≤ 7) (hn : ws.length ≤ 8) :
    parseSubmit (num1 c.val ++ num1 u ++ [(if r then 1 else 0) ||| (if st then 2 else 0) ||| 4, ch]
        ++ num2 t.toNat ++ num2 l ++ num1 a ++ num1 ws.length ++ num1 f.val ++ [b, w] ++ wordBytes o
        ++ wordBytes m ++ ws.flatMap wordBytes)
      = some ⟨c, u, r, st, ch, t, l, a, some ⟨f, fn, wh, o, m⟩, ws⟩ := by
  obtain ⟨h0, h1, h2⟩ := submitFlags_action r st
  have h := parseSubmit_bytes c ch t hu hl ha hn
    ((congrArg (parseAction · _) h2).trans (parseAction_bytes hb hw f o m (ws.flatMap wordBytes)))
  rw [h0, h1] at h
  simpa only [List.append_assoc] using h

theorem parseSubmit_plain (c : ClassId) {u l a : Nat} (ch : Byte) (t : BitVec 16) (r st : Bool) {ws : List Word}
    (hu : u ≤ 15) (hl : l < 65536) (ha : a ≤ 7) (hn : ws.length ≤ 8) :
    parseSubmit (num1 c.val ++ num1 u ++ [(if r then 1 else 0) ||| (if st then 2 else 0), ch] ++ num2 t.toNat
        ++ num2 l ++ num1 a ++ num1 ws.length ++ ws.flatMap wordBytes)
      = some ⟨c, u, r, st, ch, t, l, a, none, ws⟩ := by
  obtain ⟨h0, h1, h2⟩ := submitFlags_plain r st
  have hrest : parseAction false (ws.flatMap wordBytes) = some (none, ws.flatMap wordBytes) := rfl
  have h := parseSubmit_bytes c ch t hu hl ha hn ((congrArg (parseAction · _) h2).trans hrest)
  rwa [h0, h1] at h

/-! ### Searches (R168, R170) -/

section
variable {b : Byte} {c : Option ClassId} (hb : classOrAny b = some c) (y : Bool) (t k : BitVec 16)
include hb

theorem parseFind_bytes {ss : Byte} (h1 : 1 ≤ ss.toNat) (h31 : ss.toNat ≤ 31) :
    parseFind (yesNo y ++ [ss, b] ++ num2 t.toNat ++ num2 k.toNat)
      = some ⟨y, ⟨ss.getLsbD 0, ss.getLsbD 1, ss.getLsbD 2, ss.getLsbD 3, ss.getLsbD 4⟩, c, t, k⟩ := by
  simp only [yesNo, num2, List.cons_append, List.nil_append, parseFind, yesNoOf_yesNo, stateSetOf_of_le h1 h31, hb,
    half_tag]

theorem parseCancelMatch_bytes :
    parseCancelMatch (yesNo y ++ [b] ++ num2 t.toNat ++ num2 k.toNat) = some ⟨y, c, t, k⟩ := by
  simp only [yesNo, num2, List.cons_append, List.nil_append, parseCancelMatch, yesNoOf_yesNo, hb, half_tag]

end

/-! ### Settings (R181) -/

theorem parsePolicy_bytes (c : ClassId) {w a ce l st : Nat} (hw1 : 1 ≤ w) (hw : w ≤ 255) (ha1 : 1 ≤ a) (ha : a ≤ 7)
    (hce : ce ≤ 15) (hl1 : 1 ≤ l) (hl : l < 65536) (hst : st < 65536) :
    parsePolicy (num1 c.val ++ num1 w ++ num1 a ++ num1 ce ++ num2 l ++ num2 st) = some (c, ⟨w, l, a, st, ce⟩) := by
  have ha' := byte_toNat (n := a) (by omega)
  have hce' := byte_toNat (n := ce) (by omega)
  have hfit : ¬(w = 0 ∨ l = 0 ∨ a = 0 ∨ a > 7 ∨ ce > 15) := by omega
  simp only [num1, num2, List.cons_append, List.nil_append, parsePolicy, finOf_ofNat (n := 8) (by decide),
    byte_toNat hw, ha', hce', half_toNat hl, half_toNat hst, if_neg hfit]

/-! ### The statement -/

/-- Settles O13: block by block. -/
theorem parameterBlocksReadBack : Obligations.ParameterBlocksReadBack := by
  unfold Obligations.ParameterBlocksReadBack
  refine ⟨fun r n f m hc h1 h16 hf => parseJoin_consumer hc h1 h16 hf, fun r a b c => parseJoin_producer a b c,
    fun m f => parseService_num1 m, ⟨fun b => rfl, rfl, rfl⟩, parseHandle_handleBytes,
    fun h n => parseRenew_handleBytes h, parseReturn_handleBytes,
    fun o st ho h u ws => parseComplete_bytes (outcomeOf_of_mem ho) h u,
    fun b fn hb => ⟨parseCombine_bytes (fnOf_of_mem hb), fun w wh hw c u l a ch t f o m r st ws =>
      parseSubmit_action (fnOf_of_mem hb) (whenOf_of_mem hw) c ch t f o m r st⟩,
    fun c u l a ch t r st ws => parseSubmit_plain c ch t r st,
    fun b md hb => parseWatch_bytes (watchModeOf_of_mem hb), fun n => parseFetch_num1,
    fun b c hb y t k => ⟨fun ss => parseFind_bytes (classOrAny_of_code hb) y t k,
      parseCancelMatch_bytes (classOrAny_of_code hb) y t k⟩,
    fun c w a ce l st => parsePolicy_bytes c, fun d => parseDivisor_num2, fun p n => parseQuota_bytes p,
    ⟨parseOrphan_code .drop, parseOrphan_code .keep⟩, fun c => parseChainId_of_ne, fun i => ?_,
    fun n k hn => parseFin_num1 (by omega) k, fun p x => parseEvict_num1⟩
  exact congrArg some (slotOf_ofNat i)

end Sys2Proof.Machine
end

section
/-! The step of the machine on a queue that is not empty (O1). -/

namespace Sys2Proof.Machine

/-- Settles O1: the queue that is not empty selects the second branch of `step`. -/
theorem stepRunsTheFrontCommand : Obligations.StepRunsTheFrontCommand := by
  unfold Obligations.StepRunsTheFrontCommand
  intro c s rest hfront
  rw [step, hfront]

end Sys2Proof.Machine
end
